-- ==== Sys2Proof/Word.lean ====
section
/-!
DEFINITION. The word types of the NS48 (spec/00_scope.md, sections 4.1 to 4.7): what the manual treats as bits is a
bit vector; an index is a `Fin` of the range its table gives (section 4.6); a vehicle number is one of the numbers
0000 to 9999 (section 4.5); a quantity the manual computes exactly (a current, a thermal quantity, a count, a length
in ms) is an `Int` or a `Nat` where it is used.
-/

namespace Sys2Proof

/-- One byte of a frame (section 4.7). -/
abbrev Byte := BitVec 8

/-- A 16-bit line address (section 4.4): 0x0000 is "no address", 0xFFFF is broadcast. -/
abbrev LineAddr := BitVec 16

/-- Part time: milliseconds in 32 bits, wrapping (section 4.2). -/
abbrev Time := BitVec 32

/-- A skate tick: 0.1 ms in 16 bits, wrapping (section 4.3). -/
abbrev Tick := BitVec 16

/-- A traction power section's index, 0..47 (section 4.6). -/
abbrev SectionIx := Fin 48

/-- A frog's index, 0..63 (section 4.6). -/
abbrev FrogIx := Fin 64

/-- A test unit's index, 0..11 (section 4.6). -/
abbrev UnitIx := Fin 12

/-- A filter rule's index, 0..31 (section 4.6). -/
abbrev RuleIx := Fin 32

/-- A vehicle number, 0000 to 9999 (section 4.5); its BCD coding is in Machine/Operands.lean. -/
abbrev VehicleNumber := Fin 10000

end Sys2Proof
end

