-- ==== Sys2Proof/Syntax.lean ====
section
/-!
DEFINITION. The commands of the NS48: one constructor for each row of spec/opcode_table.json, in the table's order
(log entries 1 and 3 say what a command is and which operands it carries).
A frame command carries the header fields and the payload of a frame that arrives whole and with a correct CHECK; a
request command carries what a MGMT frame to the part carries; an expiry command names the section, frog, vehicle or
order target whose timer it is.
-/

namespace Sys2Proof

/-- The two section link ports (spec/08, section 8). -/
inductive PortId
  /-- towards the control centre -/
  | uplink
  /-- towards the field segment -/
  | field
  deriving DecidableEq, Repr

/-- A command: one whole event at the part (spec/95_what_each_step_holds.md). -/
inductive Instr
  /-- SAMPLE_FRAME (R9): a SAMPLE frame arrives on FIELD. -/
  | sampleFrame (dest src : LineAddr) (seq : Byte) (payload : List Byte)
  /-- SILENCE_TIMER_EXPIRY (R21): the silence timer of a section expires. -/
  | silenceTimerExpiry (i : SectionIx)
  /-- BREAKER_REPORT (R30): a BREAKER frame arrives on FIELD. -/
  | breakerReport (dest src : LineAddr) (seq : Byte) (payload : List Byte)
  /-- OPEN_TIMEOUT_EXPIRY (R36, R38). -/
  | openTimeoutExpiry (i : SectionIx)
  /-- CLOSE_TIMEOUT_EXPIRY (R43). -/
  | closeTimeoutExpiry (i : SectionIx)
  /-- TEST_TIMEOUT_EXPIRY (R61). -/
  | testTimeoutExpiry (i : SectionIx)
  /-- DEAD_WAIT_EXPIRY (R47). -/
  | deadWaitExpiry (i : SectionIx)
  /-- RECLAIM_EXPIRY (R48). -/
  | reclaimExpiry (i : SectionIx)
  /-- TEST_RESULT_FRAME (R59): a TEST_RESULT frame arrives on FIELD. -/
  | testResultFrame (dest src : LineAddr) (seq : Byte) (payload : List Byte)
  /-- ORDER_INTERCEPT_SECTION (R147): an ORDER frame arrives on UPLINK for a supervised feeder. -/
  | orderInterceptSection (dest src : LineAddr) (seq : Byte) (payload : List Byte)
  /-- ORDER_INTERCEPT_FROG (R148): an ORDER frame arrives on UPLINK for a supervised frog controller. -/
  | orderInterceptFrog (dest src : LineAddr) (seq : Byte) (payload : List Byte)
  /-- SKATE_FRAME (R68): a SKATE frame arrives on FIELD. -/
  | skateFrame (dest src : LineAddr) (seq : Byte) (payload : List Byte)
  /-- SETTLE_EXPIRY (R76). -/
  | settleExpiry (f : FrogIx)
  /-- SKATE_HOLD_EXPIRY (R77). -/
  | skateHoldExpiry (f : FrogIx)
  /-- POSITION_REPORT (R97): a POSITION frame arrives on FIELD. -/
  | positionReport (dest src : LineAddr) (seq : Byte) (payload : List Byte)
  /-- THROW_TIMER_EXPIRY (R99). -/
  | throwTimerExpiry (f : FrogIx)
  /-- EXIT_TIMER_EXPIRY (R102). -/
  | exitTimerExpiry (f : FrogIx)
  /-- EXIT_TIMER_FIRST_PERIOD_END (R83). -/
  | exitTimerFirstPeriodEnd (f : FrogIx)
  /-- VEHICLE_FRAME (R109): a VEHICLE frame arrives on FIELD. -/
  | vehicleFrame (dest src : LineAddr) (seq : Byte) (payload : List Byte)
  /-- AGE_TIMER_EXPIRY (R123). -/
  | ageTimerExpiry (n : VehicleNumber)
  /-- ACK_FRAME (R138): an ACK frame arrives on FIELD. -/
  | ackFrame (dest src : LineAddr) (seq : Byte) (payload : List Byte)
  /-- ACK_TIMER_EXPIRY (R139): the ACK timer of the SENT entry with this target expires. -/
  | ackTimerExpiry (target : LineAddr)
  /-- FIELD_FRAME_START (R152). -/
  | fieldFrameStart
  /-- UPLINK_FRAME_START (R153). -/
  | uplinkFrameStart
  /-- FRAME_ARRIVAL (R146): these bytes arrive on this port between the line's delimiters. -/
  | frameArrival (port : PortId) (bytes : List Byte)
  /-- UNKNOWN_REQUEST (R162): a request with this code, which is not in the table of section 10.2. -/
  | unknownRequest (src : LineAddr) (seq : Byte) (tag : BitVec 16) (code : Byte) (args : List Byte)
  /-- STATUS (R164). -/
  | status (src : LineAddr) (seq : Byte) (tag : BitVec 16) (args : List Byte)
  /-- SET_MODE (R165). -/
  | setMode (src : LineAddr) (seq : Byte) (tag : BitVec 16) (args : List Byte)
  /-- RESTART (R165). -/
  | restart (src : LineAddr) (seq : Byte) (tag : BitVec 16) (args : List Byte)
  /-- SET_GLOBALS (R166). -/
  | setGlobals (src : LineAddr) (seq : Byte) (tag : BitVec 16) (args : List Byte)
  /-- LOAD_SECTION (R167). -/
  | loadSection (src : LineAddr) (seq : Byte) (tag : BitVec 16) (args : List Byte)
  /-- UNLOAD_SECTION (R168). -/
  | unloadSection (src : LineAddr) (seq : Byte) (tag : BitVec 16) (args : List Byte)
  /-- LOAD_FROG (R169). -/
  | loadFrog (src : LineAddr) (seq : Byte) (tag : BitVec 16) (args : List Byte)
  /-- UNLOAD_FROG (R169). -/
  | unloadFrog (src : LineAddr) (seq : Byte) (tag : BitVec 16) (args : List Byte)
  /-- LOAD_FILTER (R170). -/
  | loadFilter (src : LineAddr) (seq : Byte) (tag : BitVec 16) (args : List Byte)
  /-- READ_SECTION (R171). -/
  | readSection (src : LineAddr) (seq : Byte) (tag : BitVec 16) (args : List Byte)
  /-- READ_FROG (R171). -/
  | readFrog (src : LineAddr) (seq : Byte) (tag : BitVec 16) (args : List Byte)
  /-- READ_VEHICLE (R171). -/
  | readVehicle (src : LineAddr) (seq : Byte) (tag : BitVec 16) (args : List Byte)
  /-- READ_ORDERS (R172). -/
  | readOrders (src : LineAddr) (seq : Byte) (tag : BitVec 16) (args : List Byte)
  /-- POP_FAULT (R118). -/
  | popFault (src : LineAddr) (seq : Byte) (tag : BitVec 16) (args : List Byte)
  /-- SIGN_OFF_VEHICLE (R116). -/
  | signOffVehicle (src : LineAddr) (seq : Byte) (tag : BitVec 16) (args : List Byte)
  /-- BLOCK_FROG (R88). -/
  | blockFrog (src : LineAddr) (seq : Byte) (tag : BitVec 16) (args : List Byte)
  /-- CLEAR_BLOCK (R88). -/
  | clearBlock (src : LineAddr) (seq : Byte) (tag : BitVec 16) (args : List Byte)
  /-- FLUSH_FROG (R104). -/
  | flushFrog (src : LineAddr) (seq : Byte) (tag : BitVec 16) (args : List Byte)
  /-- POWER_ON_RESET (R174): supply is applied. -/
  | powerOnReset
  /-- SUPPLY_DIP_RESET (R174): a supply falls below range. -/
  | supplyDipReset
  /-- RESET_PIN (R174): RESET_N goes low. -/
  | resetPin
  /-- RESET_END (R174): the reset cause has ended and the start-up hold begins. -/
  | resetEnd
  /-- START_UP_HOLD_END (R175): the hold ends with these levels on the address straps and on AUTORUN. -/
  | startUpHoldEnd (straps : Byte) (autorun : Bool)
  /-- RECLAIM_PERIOD_END (R27): a whole-second period of RECLAIM_TIME ends before the last one. -/
  | reclaimPeriodEnd (i : SectionIx)
  /-- AGE_TIMER_PERIOD_END (R123): a whole-second period of an age timer ends before the last one. -/
  | ageTimerPeriodEnd (n : VehicleNumber)
  deriving DecidableEq, Repr

end Sys2Proof
end

