-- ==== Sys2Proof/Decode.lean ====
section
/-!
DEFINITION. The decoding asked of every model. No row of spec/opcode_table.json gives bits (a command of this part is an
event, not a word), so no word spells a command.
-/

namespace Sys2Proof

/-- The command that a word spells by the table's bits: none, for no row of the table gives bits. -/
def decodeTableWord (_nbits _w : Nat) : Option Instr := none

end Sys2Proof
end

