-- ==== Sys2Proof/Config.lean ====
section
/-!
DEFINITION. What is fixed for the part (the capacities of its tables and queues, spec/00_scope.md section 1) and the
FREE VALUES: constants without a body, for values the manual leaves open (log entries 11, 15, 16, 17 and 28).
-/

namespace Sys2Proof.Config

/-- Capacity of the field order list (R129). -/
def orderCapacity : Nat := 32

/-- Entries a NORMAL order may not take (R129): the reserve. -/
def orderReserve : Nat := 4

/-- Capacity of the vehicle table (R106). -/
def vehicleCapacity : Nat := 128

/-- Capacity of a vehicle's fault list (R117). -/
def faultCapacity : Nat := 4

/-- Capacity of a frog's request queue (R89). -/
def requestCapacity : Nat := 4

/-- Capacity of the notice queue (R158). -/
def noticeCapacity : Nat := 24

/-- Capacity of the management reply queue (R163). -/
def replyCapacity : Nat := 4

/-- Capacity of each forward queue (R150). -/
def forwardCapacity : Nat := 32

/-- Upper end of the thermal quantity H (R15). -/
def hMax : Nat := 2147483647

/-- Largest current magnitude after clamping, in A (R5). -/
def currentMax : Int := 8000

/-- Largest voltage after clamping, in V (R5). -/
def voltageMax : Nat := 1500

/-- FREE VALUE (log entries 15 and 16): the n-th byte whose value the manual does not state. The field `freeCount`
of the state says which n comes next. -/
opaque freeByte : Nat → Byte

/-- FREE VALUE (log entry 17): whether the last conclusion record of a NOISE or STALL contact keeps the tag that the
contact dropped. -/
opaque droppedTagKept : Bool

/-- FREE VALUE (log entry 11): whether, in one event that both makes a section powered and releases its test unit, the
unit is granted before the frogs' heads are checked. -/
opaque grantBeforeHeads : Bool

/-- FREE VALUE (log entry 28): whether the expiry of an age timer removes an entry whose last active fault a CLEAR_BLOCK removed
less than VEH_AGE ago, as R123 has it of an entry with no active fault, or keeps it, as R123 has it of such a CLEAR_BLOCK. -/
opaque clearedAgesOut : Bool

end Sys2Proof.Config
end

