-- ==== Sys2Proof/Machine/State.lean ====
section
/-!
DEFINITION. The state of the NS48 as plain data: every record, table, queue, flag, counter, timer and pin the spec gives
the part, the queue of waiting commands, and the reset state. INVENTORY.md lists each field with its rule and its reset
value. No field has a function type.
-/

namespace Sys2Proof.Machine

/-- Why a step could stop with a fault: no reason exists. The manual gives every command an effect at the part, so the
type is closed with no constructor. -/
inductive Fault
  deriving DecidableEq, Repr

/-- Why a step could be refused. -/
inductive Refusal
  /-- Raised by an arm of `exec` whose command has no meaning yet (safe: the machine stops). -/
  | notModelled (mnemonic : String)
  deriving DecidableEq, Repr

/-! ## Timers (spec/00 section 4.2) -/

/-- A timer of part time. `deadline` is the end of the period now running, `later` the number of further periods and
`period` their length in ms: `later` is 0 but for the durations given in seconds (whole-second periods, section 4.2) and
for EXIT_TIMEOUT (two periods, R83). -/
inductive Timer
  | stopped
  | running (deadline : Time) (later period : Nat)
  deriving DecidableEq, Repr

/-! ## Sections (spec/01 and spec/02) -/

/-- The six kinds of order (R136; codes in spec/08 section 8.1). -/
inductive OrderKind
  | trip | opening | close | test | throwNormal | throwReverse
  deriving DecidableEq, Repr

/-- The parameters of a section (spec/01 section 1.1, spec/02 section 2.1), in the units of those tables. -/
structure SectionParams where
  feederAddr : LineAddr
  testUnit : UnitIx
  ic : Nat
  iInst : Nat
  didtStart : Nat
  windowMax : Nat
  deltaBase : Nat
  vehAllow : Nat
  vehCap : Nat
  hTrip : Nat
  silenceTime : Nat
  vDead : Nat
  supplyLossTime : Nat
  rMin : Nat
  recloseMax : Nat
  recloseDead : Nat
  reclaimTime : Nat
  openTimeout : Nat
  closeTimeout : Nat
  testTimeout : Nat
  deriving DecidableEq, Repr

/-- An open ΔI window (R11): base, count and frozen threshold. A closed window is the absence of this record, and its
three values then read as 0. -/
structure Window where
  base : Int
  count : Nat
  threshold : Int
  deriving DecidableEq, Repr

/-- The dynamic protection record (spec/01 section 1.2). -/
structure Protection where
  iPrev : Int
  iLast : Int
  expectedSeq : Byte
  synced : Bool
  window : Option Window
  h : Nat
  blind : Bool
  supplyLost : Bool
  lowRun : Option Time
  silence : Timer
  deriving DecidableEq, Repr

/-- The substates of ENERGIZING (spec/02 section 2.2). -/
inductive Substate
  | cooling | testWait | testing | closing
  deriving DecidableEq, Repr

/-- The states of a configured section (spec/02 section 2.2); UNCONFIGURED is the absence of a section record. -/
inductive SectionState
  | unknown
  | isolated
  | energizing (sub : Substate)
  | live
  | tripping
  | isolating
  | deadWait
  | lockedOut
  deriving DecidableEq, Repr

/-- Who started an attempt (spec/02 section 2.2); NONE is the absence of a value. -/
inductive Origin
  | dispatch | auto
  deriving DecidableEq, Repr

/-- Trip reasons (spec/02 section 2.2); NONE is the absence of a value. -/
inductive TripReason
  | inst | delta | thermal | external | breakerFault
  deriving DecidableEq, Repr

/-- Lock-out reasons (spec/02 section 2.2); NONE is the absence of a value. -/
inductive LockReason
  | exhausted | leak | blind | testFail | closeFail | breakerFail | breakerFault | dispatchFail
  deriving DecidableEq, Repr

/-- Breaker reports (R30); NONE is the absence of a value. -/
inductive BreakerState
  | opened | closed | fault
  deriving DecidableEq, Repr

/-- A configured section: its parameters, its protection record and its entry of the section table. -/
structure Sect where
  params : SectionParams
  prot : Protection
  state : SectionState
  attempts : Nat
  origin : Option Origin
  tripReason : Option TripReason
  lockReason : Option LockReason
  lastReport : Option BreakerState
  isolateOnOpen : Bool
  timer : Timer
  wait : Option OrderKind
  deriving DecidableEq, Repr

/-! ## Test units (spec/03) -/

/-- How a test ended (R63). -/
inductive TestOutcome
  | pass (resistance : BitVec 16)
  | fail (resistance : BitVec 16)
  | timeout
  | orderFail
  | abandoned
  deriving DecidableEq, Repr

/-- A test unit record (spec/03 section 3.1). The unit is HELD exactly when it has a holder. The waiting set is listed in
increasing index order. -/
structure TestUnit where
  holder : Option SectionIx
  waiting : List SectionIx
  pointer : SectionIx
  lastTest : Option (SectionIx × TestOutcome)
  deriving DecidableEq, Repr

/-- A test unit after every reset and mode change (R53). -/
def TestUnit.starting : TestUnit :=
  { holder := none, waiting := [], pointer := 0, lastTest := none }

/-! ## Frogs (spec/04 and spec/05) -/

/-- The two positions of a frog's tongues, and the two routes. -/
inductive Route
  | normal | reverse
  deriving DecidableEq, Repr

/-- The parameters of a frog (spec/05 section 5.1, spec/04 section 4.1). `drawSense` is the route that drawing current
selects. -/
structure FrogParams where
  ctrlAddr : LineAddr
  powerSection : SectionIx
  normalLeg : SectionIx
  reverseLeg : SectionIx
  dflt : Route
  returns : Bool
  throwTimeout : Nat
  exitTimeout : Nat
  wMin : Nat
  wMax : Nat
  bounceGap : Nat
  bounceMax : Nat
  skateHold : Nat
  drawSense : Route
  deriving DecidableEq, Repr

/-- Where the part believes the tongues lie (spec/05 section 5.2); MOVING carries its target. -/
inductive Position
  | unknown
  | at (r : Route)
  | moving (target : Route)
  deriving DecidableEq, Repr

/-- The reasons of a block set (spec/05 section 5.4). -/
inductive BlockReason
  | dewire | stall | position | overflow | exit | dispatch
  deriving DecidableEq, Repr

/-- A block set: which of the six reasons it holds. -/
structure BlockSet where
  dewire : Bool
  stall : Bool
  position : Bool
  overflow : Bool
  exit : Bool
  dispatch : Bool
  deriving DecidableEq, Repr

/-- The source of a queue entry (spec/05 section 5.5); a PASSAGE carries its tag and its width. -/
inductive RequestKind
  | passage (tag : Option VehicleNumber) (width : Tick)
  | dispatch
  | returning
  deriving DecidableEq, Repr

/-- Progress of a queue entry (spec/05 section 5.5). -/
inductive RequestPhase
  | waiting | throwing | set
  deriving DecidableEq, Repr

/-- An entry of a frog's request queue (spec/05 section 5.5). -/
structure Request where
  kind : RequestKind
  target : Route
  phase : RequestPhase
  deriving DecidableEq, Repr

/-- Phase of a capture record (spec/04 section 4.2). -/
inductive CapturePhase
  | idle | contact | settling
  deriving DecidableEq, Repr

/-- Start of the draw interval being counted (spec/04 section 4.2). -/
inductive DrawStart
  | none
  | at (tick : Tick)
  | pending
  deriving DecidableEq, Repr

/-- The judgement of a concluded contact (R78 to R80). -/
inductive Judgement
  | passage (bouncing : Bool) (route : Route)
  | noise
  | stall
  deriving DecidableEq, Repr

/-- A last conclusion record (R81). -/
structure Conclusion where
  judgement : Judgement
  width : Tick
  drawTotal : Nat
  bounces : Nat
  tag : Option VehicleNumber
  deriving DecidableEq, Repr

/-- A capture record (spec/04 section 4.2). -/
structure Capture where
  phase : CapturePhase
  riseTick : Tick
  fallTick : Tick
  drawHigh : Bool
  drawStart : DrawStart
  drawTotal : Nat
  bounces : Nat
  tag : Option VehicleNumber
  stall : Bool
  settle : Timer
  hold : Timer
  last : Option Conclusion
  deriving DecidableEq, Repr

/-- A configured frog: its parameters, its dynamic state (spec/05 section 5.2) and its capture record. -/
structure Frog where
  params : FrogParams
  position : Position
  blocks : BlockSet
  untracked : Bool
  queue : List Request
  throwTimer : Timer
  exitTimer : Timer
  wait : Option Route
  capture : Capture
  deriving DecidableEq, Repr

/-! ## Vehicles (spec/06) -/

/-- Fault codes of a fault record (spec/06 section 6.1). -/
inductive FaultCode
  | dewire | insulation | bounce
  deriving DecidableEq, Repr

/-- Place of a fault record (spec/06 section 6.1). -/
inductive Place
  | nowhere
  | inSection (i : SectionIx)
  | atFrog (f : FrogIx)
  deriving DecidableEq, Repr

/-- A fault record (spec/06 section 6.1). -/
structure FaultRecord where
  code : FaultCode
  place : Place
  heard : Time
  deriving DecidableEq, Repr

/-- A vehicle entry (spec/06 section 6.1). `age` is the time since last heard, counted without wrapping and held at
2³² − 1 ms (R110). `dewire` is absent, or present with a frog or with none. `clearedAt` is the model's own (log entry 28): the
part time of the CLEAR_BLOCK that removed the last active fault, if the age timer has not been started since. -/
structure Vehicle where
  number : VehicleNumber
  located : Option SectionIx
  lastHeard : Time
  age : Nat
  dewire : Option (Option FrogIx)
  insulation : Bool
  bounce : Bool
  faults : List FaultRecord
  listLost : Bool
  ageTimer : Timer
  clearedAt : Option Time
  deriving DecidableEq, Repr

/-! ## Field order list (spec/07) -/

/-- State of an order entry (spec/07 section 7.1); SEQ and the ACK timer exist only when SENT. -/
inductive OrderState
  | queued
  | sent (seq : Byte) (ack : Timer)
  deriving DecidableEq, Repr

/-- A live order entry (spec/07 section 7.1). The registration stamp is the entry's place in the list, oldest first; the
urgency follows from the kind. -/
structure Order where
  target : LineAddr
  kind : OrderKind
  state : OrderState
  deriving DecidableEq, Repr

/-! ## Ports and forwarding (spec/08) -/

/-- A received frame, byte for byte (spec/08 section 8.1). LEN is the payload's length. -/
structure Frame where
  dest : LineAddr
  src : LineAddr
  kind : Byte
  seq : Byte
  payload : List Byte
  check : BitVec 16
  deriving DecidableEq, Repr

/-- Port field of a filter rule (spec/08 section 8.5). -/
inductive RulePort
  | uplink | field | either
  deriving DecidableEq, Repr

/-- A filter rule (spec/08 section 8.5); `kind` is absent for ANY. -/
structure FilterRule where
  inUse : Bool
  port : RulePort
  kind : Option Byte
  srcLow : LineAddr
  srcHigh : LineAddr
  hold : Bool
  deriving DecidableEq, Repr

/-- A filter rule after POWER_ON and SUPPLY_DIP (spec/08 section 8.5). -/
def FilterRule.powerOn : FilterRule :=
  { inUse := false, port := .uplink, kind := none, srcLow := 0x0000, srcHigh := 0xFFFF, hold := false }

/-- Candidates in a rotation order (R151). -/
inductive Candidate
  | reply | notice | normalOrder | forward
  deriving DecidableEq, Repr

/-- What a port unit and its forward queue hold (spec/08). `forward` is the queue of frames that leave by this port.
`line` is the MODEL's own: the last frame put on the port's outward line (log entry 9). -/
structure Port where
  checkErr : Bool
  forwardDrop : Bool
  seq : Byte
  rotation : List Candidate
  forward : List Frame
  line : List Byte
  deriving DecidableEq, Repr

/-- The fixed order of the UPLINK arbiter's rotating candidates (R151). -/
def uplinkFixedOrder : List Candidate := [.reply, .notice, .forward]

/-- The fixed order of the FIELD arbiter's rotating candidates (R151). -/
def fieldFixedOrder : List Candidate := [.normalOrder, .forward]

/-! ## Notices (spec/09) and replies (spec/10) -/

/-- The kinds of reset (R174). -/
inductive ResetCause
  | powerOn | supplyDip | resetPin | restart
  deriving DecidableEq, Repr

/-- Operating mode (spec/11). -/
inductive Mode
  | bypass | supervise
  deriving DecidableEq, Repr

/-- Flags of a SECTION_FLAG notice (spec/09 section 9.1). -/
inductive SectionFlag
  | blind | supplyLost | localClose
  deriving DecidableEq, Repr

/-- Reasons of an ORDER_REFUSED notice (spec/09 section 9.1). -/
inductive RefuseReason
  | state | full | kind
  deriving DecidableEq, Repr

/-- Kind of a frog's head as a FROG_STATE notice gives it (spec/09 section 9.1). -/
inductive HeadKind
  | passage | dispatch | returning
  deriving DecidableEq, Repr

/-- The content of a notice (spec/09 section 9.1). `sectionUnloaded` is the SECTION_STATE notice of an unload, whose
last four fields are free values (log entry 16). -/
inductive NoticeBody
  | start (cause : ResetCause) (mode : Mode)
  | sectionState (i : SectionIx) (state : SectionState) (trip : Option TripReason) (lock : Option LockReason)
      (attempts h : Nat)
  | sectionUnloaded (i : SectionIx) (trip lock attempts : Byte) (h : List Byte)
  | sectionFlag (i : SectionIx) (flag : SectionFlag) (isSet : Bool)
  | frogState (f : FrogIx) (position : Position) (head : Option (HeadKind × Route × RequestPhase)) (count : Nat)
  | frogBlock (f : FrogIx) (reason : BlockReason) (added : Bool) (blocks : BlockSet)
  | vehicleFault (n : VehicleNumber) (code : FaultCode) (place : Place)
  | orderRefused (target : LineAddr) (kind : Byte) (reason : RefuseReason)
  | tableFull (n : VehicleNumber)
  deriving DecidableEq, Repr

/-- A queued notice: its content and the DEST fixed at its raising (R157). -/
structure Notice where
  dest : LineAddr
  body : NoticeBody
  deriving DecidableEq, Repr

/-- Result codes of a reply (spec/10 section 10.1). -/
inductive ResultCode
  | ok | unknownRequest | range | state | notFound | empty | full
  deriving DecidableEq, Repr

/-- A queued management reply (spec/10 section 10.1). -/
structure Reply where
  dest : LineAddr
  code : Byte
  tag : BitVec 16
  result : ResultCode
  data : List Byte
  deriving DecidableEq, Repr

/-! ## Globals and control (spec/10, spec/11) -/

/-- Mode of a transmit arbiter (R151). -/
inductive ArbMode
  | fixed | rotating
  deriving DecidableEq, Repr

/-- The six globals (R166). -/
structure Globals where
  centreAddr : LineAddr
  ackTimeout : Nat
  arbField : ArbMode
  arbUplink : ArbMode
  settle : Nat
  vehAge : Nat
  deriving DecidableEq, Repr

/-- The globals after POWER_ON and SUPPLY_DIP (R166). -/
def Globals.powerOn : Globals :=
  { centreAddr := 0x0000, ackTimeout := 40, arbField := .fixed, arbUplink := .fixed, settle := 20, vehAge := 0 }

/-- Where the part stands in a reset (R174, R175): running, in a reset, or in the start-up hold with this many ms left.
The bypass relay is closed except when running. -/
inductive Activity
  | running
  | resetting
  | holding (left : Nat)
  deriving DecidableEq, Repr

/-- The state of the part. -/
structure State where
  sections : Vector (Option Sect) 48
  units : Vector TestUnit 12
  frogs : Vector (Option Frog) 64
  vehicles : List Vehicle
  orders : List Order
  filter : Vector FilterRule 32
  uplink : Port
  field : Port
  notices : List Notice
  noticeLost : Bool
  replies : List Reply
  globals : Globals
  cause : ResetCause
  mode : Mode
  activity : Activity
  configKept : Bool
  ownAddr : LineAddr
  partTime : Time
  straps : Byte
  autorun : Bool
  resetN : Bool
  supplyOk : Bool
  freeCount : Nat
  pending : List Instr
  deriving DecidableEq, Repr

/-- The part right after reset: the end of the start-up hold of a POWER_ON reset with the address straps and AUTORUN at
their pull-downs (R175 to R177; log entry 5). Every table is cleared, the mode is BYPASS, part time is 0 and the START
notice was dropped because CENTRE_ADDR is 0x0000 (R157). -/
def State.reset : State :=
  { sections := Vector.replicate 48 none
    units := Vector.replicate 12 TestUnit.starting
    frogs := Vector.replicate 64 none
    vehicles := []
    orders := []
    filter := Vector.replicate 32 FilterRule.powerOn
    uplink := { checkErr := false, forwardDrop := false, seq := 0, rotation := uplinkFixedOrder, forward := [], line := [] }
    field := { checkErr := false, forwardDrop := false, seq := 0, rotation := fieldFixedOrder, forward := [], line := [] }
    notices := []
    noticeLost := false
    replies := []
    globals := Globals.powerOn
    cause := .powerOn
    mode := .bypass
    activity := .running
    configKept := false
    ownAddr := 0x7F00
    partTime := 0
    straps := 0
    autorun := false
    resetN := true
    supplyOk := true
    freeCount := 0
    pending := [] }

end Sys2Proof.Machine
end

