-- ==== Sys2Proof/Machine/Operands.lean ====
section
/-!
DEFINITION. The operand forms: big-endian fields, BCD vehicle numbers, the CHECK, the frame layout, the payloads of the
field-device frames (spec/08 section 8.1), the argument layouts of the management requests (spec/10) and the codes of the
enumerated fields (spec/09 section 9.1, spec/10 section 10.5).
-/

namespace Sys2Proof.Machine

/-! ## Bytes, big-endian fields, BCD (spec/00 sections 4.5 and 4.7) -/

/-- One byte holding `n`. -/
def u8 (n : Nat) : Byte := BitVec.ofNat 8 n

/-- `n` in two bytes, most significant first. -/
def be16 (n : Nat) : List Byte := [u8 (n / 256), u8 n]

/-- `n` in four bytes, most significant first. -/
def be32 (n : Nat) : List Byte := [u8 (n / 16777216), u8 (n / 65536), u8 (n / 256), u8 n]

/-- A 16-bit value in two bytes, most significant first. -/
def beWord (w : BitVec 16) : List Byte := be16 w.toNat

/-- A signed quantity in two bytes, two's complement (section 4.7). -/
def beSigned (i : Int) : List Byte := beWord (BitVec.ofInt 16 i)

/-- The 16-bit value of two bytes. -/
def word (hi lo : Byte) : BitVec 16 := hi ++ lo

/-- A flag in one byte: 0x01 set or yes, 0x00 clear or no (log entry 18). -/
def flagByte (b : Bool) : Byte := if b then 0x01 else 0x00

/-- The byte at an offset of an argument list. -/
def argU8 (a : List Byte) (k : Nat) : Nat := (a.getD k 0).toNat

/-- The 16-bit number at an offset of an argument list. -/
def argU16 (a : List Byte) (k : Nat) : Nat := argU8 a k * 256 + argU8 a (k + 1)

/-- The 32-bit number at an offset of an argument list. -/
def argU32 (a : List Byte) (k : Nat) : Nat := argU16 a k * 65536 + argU16 a (k + 2)

/-- The 16-bit word at an offset of an argument list. -/
def argWord (a : List Byte) (k : Nat) : BitVec 16 := word (a.getD k 0) (a.getD (k + 1) 0)

/-- The value `n` as an index below `k`, if it is one. -/
def indexOf (k n : Nat) : Option (Fin k) := if h : n < k then some ⟨n, h⟩ else none

/-- The vehicle number of two BCD bytes; none if a digit is above 9 (section 4.5). -/
def bcdNumber (hi lo : Byte) : Option VehicleNumber :=
  let a := hi.toNat / 16
  let b := hi.toNat % 16
  let c := lo.toNat / 16
  let d := lo.toNat % 16
  if a ≤ 9 ∧ b ≤ 9 ∧ c ≤ 9 ∧ d ≤ 9 then indexOf 10000 (a * 1000 + b * 100 + c * 10 + d) else none

/-- A vehicle number in two BCD bytes (section 4.5). -/
def bcdBytes (n : VehicleNumber) : List Byte :=
  [u8 (n.val / 1000 * 16 + n.val / 100 % 10), u8 (n.val / 10 % 10 * 16 + n.val % 10)]

/-- A vehicle number or none in two bytes, 0xFFFF for none (spec/10 section 10.2). -/
def tagBytes : Option VehicleNumber → List Byte
  | some n => bcdBytes n
  | none => [0xFF, 0xFF]

/-- An index or none in one byte, 0xFF for none (spec/10 section 10.2). -/
def indexByte {k : Nat} : Option (Fin k) → Byte
  | some i => u8 i.val
  | none => 0xFF

/-! ## The CHECK (R142) -/

/-- One bit of the CHECK's division by x¹⁶ + x¹² + x⁵ + 1. -/
def crcBit (r : BitVec 16) : BitVec 16 := if r.msb then (r <<< 1) ^^^ 0x1021 else r <<< 1

/-- One byte fed into the CHECK register, most significant bit first. -/
def crcByte (r : BitVec 16) (b : Byte) : BitVec 16 :=
  crcBit (crcBit (crcBit (crcBit (crcBit (crcBit (crcBit (crcBit (r ^^^ (b.zeroExtend 16 <<< 8)))))))))

/-- The CHECK of a run of bytes: the register starts at 0xFFFF and is used without final inversion. -/
def crc (bytes : List Byte) : BitVec 16 := bytes.foldl crcByte 0xFFFF

/-! ## Frames (spec/08 section 8.1) -/

/-- KIND of SAMPLE. -/
def kindSample : Byte := 0x11
/-- KIND of BREAKER. -/
def kindBreaker : Byte := 0x12
/-- KIND of TEST_RESULT. -/
def kindTestResult : Byte := 0x13
/-- KIND of POSITION. -/
def kindPosition : Byte := 0x21
/-- KIND of SKATE. -/
def kindSkate : Byte := 0x22
/-- KIND of VEHICLE. -/
def kindVehicle : Byte := 0x31
/-- KIND of ACK. -/
def kindAck : Byte := 0x41
/-- KIND of ORDER. -/
def kindOrder : Byte := 0x51
/-- KIND of MGMT. -/
def kindMgmt : Byte := 0x61
/-- KIND of MGMT_REPLY. -/
def kindMgmtReply : Byte := 0x62
/-- KIND of NOTICE. -/
def kindNotice : Byte := 0x71

/-- Bytes 0 to 6 + LEN of a frame: the header and the payload. -/
def frameBody (dest src : LineAddr) (kind seq : Byte) (payload : List Byte) : List Byte :=
  beWord dest ++ beWord src ++ [kind, seq, u8 payload.length] ++ payload

/-- A frame with its CHECK computed (R142, R154). -/
def makeFrame (dest src : LineAddr) (kind seq : Byte) (payload : List Byte) : Frame :=
  { dest, src, kind, seq, payload, check := crc (frameBody dest src kind seq payload) }

/-- The bytes of a frame between the line's delimiters. -/
def Frame.bytes (f : Frame) : List Byte :=
  frameBody f.dest f.src f.kind f.seq f.payload ++ beWord f.check

/-- The receive check (R143): the frame, unless the bytes are too few, LEN is above 120, the length disagrees with LEN or
the CHECK is wrong. -/
def parseFrame : List Byte → Option Frame
  | d1 :: d0 :: s1 :: s0 :: kind :: seq :: len :: rest =>
    if len.toNat ≤ 120 ∧ rest.length = len.toNat + 2 then
      let payload := rest.take len.toNat
      match rest.drop len.toNat with
      | [c1, c0] =>
        if word c1 c0 = crc (frameBody (word d1 d0) (word s1 s0) kind seq payload) then
          some { dest := word d1 d0, src := word s1 s0, kind, seq, payload, check := word c1 c0 }
        else none
      | _ => none
    else none
  | _ => none

/-! ## Payloads of field-device frames (spec/08 section 8.1) -/

/-- One sample: current in A, voltage in V, as received. -/
structure Sample where
  current : Int
  voltage : Nat
  deriving DecidableEq, Repr

/-- The samples of a SAMPLE payload, in their order. -/
def parseSamples : List Byte → List Sample
  | c1 :: c0 :: v1 :: v0 :: rest =>
    { current := (word c1 c0).toInt, voltage := (word v1 v0).toNat } :: parseSamples rest
  | _ => []

/-- A sample clamped before use (R5). -/
def Sample.clamped (x : Sample) : Sample :=
  { current := max (-Config.currentMax) (min Config.currentMax x.current), voltage := min x.voltage Config.voltageMax }

/-- A BREAKER payload (R30): LEN 1 and one of the three codes. -/
def parseBreaker : List Byte → Option BreakerState
  | [b] => match b.toNat with
    | 0x00 => some .opened
    | 0x01 => some .closed
    | 0x02 => some .fault
    | _ => none
  | _ => none

/-- A TEST_RESULT payload (R59): LEN 2. -/
def parseTestResult : List Byte → Option (BitVec 16)
  | [r1, r0] => some (word r1 r0)
  | _ => none

/-- What a POSITION frame reports (spec/05 section 5.7). -/
inductive PositionReport
  | at (r : Route)
  | moving
  | lost
  deriving DecidableEq, Repr

/-- A POSITION payload (R97): LEN 1 and one of the four codes. -/
def parsePosition : List Byte → Option PositionReport
  | [b] => match b.toNat with
    | 0x00 => some (.at .normal)
    | 0x01 => some (.at .reverse)
    | 0x02 => some .moving
    | 0x03 => some .lost
    | _ => none
  | _ => none

/-- Contact-edge codes of a SKATE event (spec/04 section 4.3). -/
inductive Edge
  | entryRise | entryFall | drawRise | drawFall | exitRise | exitFall | tag
  deriving DecidableEq, Repr

/-- One SKATE event. -/
structure SkateEvent where
  edge : Edge
  tick : Tick
  number : VehicleNumber
  deriving DecidableEq, Repr

/-- The edge of a code. -/
def parseEdge (b : Byte) : Option Edge :=
  match b.toNat with
  | 0x01 => some .entryRise
  | 0x02 => some .entryFall
  | 0x03 => some .drawRise
  | 0x04 => some .drawFall
  | 0x05 => some .exitRise
  | 0x06 => some .exitFall
  | 0x07 => some .tag
  | _ => none

/-- The events of a SKATE payload after its count; none if a code or a digit is bad or bytes are left over. -/
def parseEvents : List Byte → Option (List SkateEvent)
  | [] => some []
  | e :: t1 :: t0 :: v1 :: v0 :: rest =>
    match parseEdge e, bcdNumber v1 v0, parseEvents rest with
    | some edge, some number, some more => some ({ edge, tick := word t1 t0, number } :: more)
    | _, _, _ => none
  | _ => none

/-- A SKATE payload (R67): a count of 1..12, a LEN that agrees with it, and good codes and digits throughout. -/
def parseSkate : List Byte → Option (List SkateEvent)
  | n :: rest =>
    if 1 ≤ n.toNat ∧ n.toNat ≤ 12 ∧ rest.length = 5 * n.toNat then parseEvents rest else none
  | [] => none

/-- Clear scopes of a VEHICLE report (R115). -/
inductive ClearScope
  | dewire | insulation | bounce | all
  deriving DecidableEq, Repr

/-- A VEHICLE report with the fields its kind uses (R109). -/
inductive VehicleReport
  | locate (i : Option SectionIx)
  | dewire (i : Option SectionIx) (f : Option FrogIx)
  | insulation (i : Option SectionIx)
  | clear (scope : ClearScope)
  | signOff
  deriving DecidableEq, Repr

/-- A section or frog field of a VEHICLE frame: 0xFF for none, or an index that `ok` accepts. -/
def parseIndexField (k : Nat) (ok : Fin k → Bool) (b : Byte) : Option (Option (Fin k)) :=
  if b = 0xFF then some none
  else match indexOf k b.toNat with
    | some i => if ok i then some (some i) else none
    | none => none

/-- The clear scope of a code. -/
def parseScope (b : Byte) : Option ClearScope :=
  match b.toNat with
  | 0x01 => some .dewire
  | 0x02 => some .insulation
  | 0x03 => some .bounce
  | 0x04 => some .all
  | _ => none

/-- A report of a code, from the section, frog and scope fields (R109). -/
def reportOf (b : Byte) (i : Option SectionIx) (f : Option FrogIx) (scope : ClearScope) : Option VehicleReport :=
  match b.toNat with
  | 0x01 => some (.locate i)
  | 0x02 => some (.dewire i f)
  | 0x03 => some (.insulation i)
  | 0x04 => some (.clear scope)
  | 0x05 => some .signOff
  | _ => none

/-- A VEHICLE payload (R108). `sectOk` and `frogOk` say which sections and frogs are configured; all three fields are
checked in every report. -/
def parseVehicle (sectOk : SectionIx → Bool) (frogOk : FrogIx → Bool) : List Byte → Option (VehicleNumber × VehicleReport)
  | [v1, v0, kind, place, frog, scope] =>
    match bcdNumber v1 v0, parseIndexField 48 sectOk place, parseIndexField 64 frogOk frog, parseScope scope with
    | some n, some i, some f, some c => (reportOf kind i f c).map fun r => (n, r)
    | _, _, _, _ => none
  | _ => none

/-- An ACK payload (R137): the echoed SEQ and whether the disposition is ACCEPTED. -/
def parseAck : List Byte → Option (Byte × Bool)
  | [seq, d] => match d.toNat with
    | 0x00 => some (seq, true)
    | 0x01 => some (seq, false)
    | _ => none
  | _ => none

/-- The order kind of a code (spec/08 section 8.1). -/
def parseOrderKind (b : Byte) : Option OrderKind :=
  match b.toNat with
  | 0x01 => some .trip
  | 0x02 => some .opening
  | 0x03 => some .close
  | 0x04 => some .test
  | 0x05 => some .throwNormal
  | 0x06 => some .throwReverse
  | _ => none

/-- An ORDER payload: LEN 1 and one of the six codes. -/
def parseOrder : List Byte → Option OrderKind
  | [b] => parseOrderKind b
  | _ => none

/-- The kind field of an ORDER_REFUSED notice: the first payload byte, or 0x00 when LEN is 0 (R147). -/
def carriedKind (payload : List Byte) : Byte := payload.headD 0x00

/-! ## Codes (spec/08 section 8.1, spec/09 section 9.1, spec/10 sections 10.1 and 10.5) -/

def OrderKind.code : OrderKind → Byte
  | .trip => 0x01
  | .opening => 0x02
  | .close => 0x03
  | .test => 0x04
  | .throwNormal => 0x05
  | .throwReverse => 0x06

def ResetCause.code : ResetCause → Byte
  | .powerOn => 0x01
  | .supplyDip => 0x02
  | .resetPin => 0x03
  | .restart => 0x04

def Mode.code : Mode → Byte
  | .bypass => 0x00
  | .supervise => 0x01

def SectionState.code : SectionState → Byte
  | .unknown => 0x01
  | .isolated => 0x02
  | .energizing _ => 0x03
  | .live => 0x04
  | .tripping => 0x05
  | .isolating => 0x06
  | .deadWait => 0x07
  | .lockedOut => 0x08

/-- The substate byte, 0x00 NONE outside ENERGIZING. -/
def SectionState.subCode : SectionState → Byte
  | .energizing .cooling => 0x01
  | .energizing .testWait => 0x02
  | .energizing .testing => 0x03
  | .energizing .closing => 0x04
  | _ => 0x00

def tripCode : Option TripReason → Byte
  | none => 0x00
  | some .inst => 0x01
  | some .delta => 0x02
  | some .thermal => 0x03
  | some .external => 0x04
  | some .breakerFault => 0x05

def lockCode : Option LockReason → Byte
  | none => 0x00
  | some .exhausted => 0x01
  | some .leak => 0x02
  | some .blind => 0x03
  | some .testFail => 0x04
  | some .closeFail => 0x05
  | some .breakerFail => 0x06
  | some .breakerFault => 0x07
  | some .dispatchFail => 0x08

def originCode : Option Origin → Byte
  | none => 0x00
  | some .dispatch => 0x01
  | some .auto => 0x02

def breakerCode : Option BreakerState → Byte
  | none => 0x00
  | some .opened => 0x01
  | some .closed => 0x02
  | some .fault => 0x03

def SectionFlag.code : SectionFlag → Byte
  | .blind => 0x01
  | .supplyLost => 0x02
  | .localClose => 0x03

def Route.code : Route → Byte
  | .normal => 0x00
  | .reverse => 0x01

def Position.code : Position → Byte
  | .at r => r.code
  | .moving _ => 0x02
  | .unknown => 0x03

/-- The moving target byte, 0xFF absent unless MOVING. -/
def Position.targetCode : Position → Byte
  | .moving r => r.code
  | _ => 0xFF

def HeadKind.code : HeadKind → Byte
  | .passage => 0x01
  | .dispatch => 0x02
  | .returning => 0x03

def RequestPhase.code : RequestPhase → Byte
  | .waiting => 0x00
  | .throwing => 0x01
  | .set => 0x02

def FaultCode.code : FaultCode → Byte
  | .dewire => 0x01
  | .insulation => 0x02
  | .bounce => 0x03

/-- Place kind and place index of a fault record, index 0xFF for NONE. -/
def Place.codes : Place → List Byte
  | .nowhere => [0x00, 0xFF]
  | .inSection i => [0x01, u8 i.val]
  | .atFrog f => [0x02, u8 f.val]

def RefuseReason.code : RefuseReason → Byte
  | .state => 0x01
  | .full => 0x02
  | .kind => 0x03

def ResultCode.code : ResultCode → Byte
  | .ok => 0x00
  | .unknownRequest => 0x01
  | .range => 0x02
  | .state => 0x03
  | .notFound => 0x04
  | .empty => 0x05
  | .full => 0x06

def ArbMode.code : ArbMode → Byte
  | .fixed => 0x00
  | .rotating => 0x01

/-- Last test outcome and resistance as READ_SECTION carries them (R171): resistance 0xFFFF but for PASS and FAIL. -/
def outcomeBytes : Option TestOutcome → List Byte
  | none => [0x00, 0xFF, 0xFF]
  | some (.pass r) => 0x01 :: beWord r
  | some (.fail r) => 0x02 :: beWord r
  | some .timeout => [0x03, 0xFF, 0xFF]
  | some .orderFail => [0x04, 0xFF, 0xFF]
  | some .abandoned => [0x05, 0xFF, 0xFF]

def CapturePhase.code : CapturePhase → Byte
  | .idle => 0x00
  | .contact => 0x01
  | .settling => 0x02

/-- Draw start kind and tick (R171): the tick is 0xFFFF for NONE and PENDING. -/
def DrawStart.codes : DrawStart → List Byte
  | .none => [0x00, 0xFF, 0xFF]
  | .at t => 0x01 :: beWord t
  | .pending => [0x02, 0xFF, 0xFF]

/-- A time remaining in four bytes of ms, 0xFFFFFFFF for stopped (spec/10 section 10.2). -/
def remainingBytes : Option Nat → List Byte
  | none => [0xFF, 0xFF, 0xFF, 0xFF]
  | some n => be32 n

/-! ## Argument layouts (spec/10 section 10.3 and 10.4) -/

/-- `n` lies in the range `lo..hi`. -/
def inRange (lo hi n : Nat) : Bool := decide (lo ≤ n) && decide (n ≤ hi)

/-- The value of a two-value code, if it is 0x00 or 0x01. -/
def twoCode {α : Type} (zero one : α) (n : Nat) : Option α :=
  match n with
  | 0 => some zero
  | 1 => some one
  | _ => none

/-- The parameters of LOAD_SECTION's arguments, whatever their ranges, with the test unit given. -/
def sectionParamsAt (a : List Byte) (unit : UnitIx) : SectionParams :=
  { feederAddr := argWord a 1, testUnit := unit, ic := argU16 a 4, iInst := argU16 a 6, didtStart := argU16 a 8
    windowMax := argU8 a 10, deltaBase := argU16 a 11, vehAllow := argU16 a 13, vehCap := argU8 a 15
    hTrip := argU32 a 16, silenceTime := argU16 a 20, vDead := argU16 a 22, supplyLossTime := argU16 a 24
    rMin := argU16 a 26, recloseMax := argU8 a 28, recloseDead := argU16 a 29, reclaimTime := argU16 a 31
    openTimeout := argU16 a 33, closeTimeout := argU16 a 35, testTimeout := argU16 a 37 }

/-- The ranges of spec/01 section 1.1 and spec/02 section 2.1. -/
def SectionParams.inRanges (p : SectionParams) : Bool :=
  inRange 0x0001 0xFFFE p.feederAddr.toNat && inRange 1 4000 p.ic && inRange 500 8000 p.iInst
    && inRange 5 2000 p.didtStart && inRange 1 255 p.windowMax && inRange 100 8000 p.deltaBase
    && inRange 0 1000 p.vehAllow && inRange 0 15 p.vehCap && inRange 1000 2000000000 p.hTrip
    && inRange 10 1000 p.silenceTime && inRange 0 1000 p.vDead && inRange 10 5000 p.supplyLossTime
    && inRange 1 65534 p.rMin && inRange 0 3 p.recloseMax && inRange 100 60000 p.recloseDead
    && inRange 1 600 p.reclaimTime && inRange 20 2000 p.openTimeout && inRange 50 5000 p.closeTimeout
    && inRange 100 10000 p.testTimeout

/-- LOAD_SECTION's arguments: the index and the parameters, if all are in range (R167). -/
def parseLoadSection (a : List Byte) : Option (SectionIx × SectionParams) :=
  match indexOf 48 (argU8 a 0), indexOf 12 (argU8 a 3) with
  | some i, some unit =>
    if (sectionParamsAt a unit).inRanges then some (i, sectionParamsAt a unit) else none
  | _, _ => none

/-- The 38 parameter bytes of READ_SECTION, laid out as LOAD_SECTION's arguments (R171). -/
def SectionParams.bytes (p : SectionParams) : List Byte :=
  beWord p.feederAddr ++ [u8 p.testUnit.val] ++ be16 p.ic ++ be16 p.iInst ++ be16 p.didtStart ++ [u8 p.windowMax]
    ++ be16 p.deltaBase ++ be16 p.vehAllow ++ [u8 p.vehCap] ++ be32 p.hTrip ++ be16 p.silenceTime ++ be16 p.vDead
    ++ be16 p.supplyLossTime ++ be16 p.rMin ++ [u8 p.recloseMax] ++ be16 p.recloseDead ++ be16 p.reclaimTime
    ++ be16 p.openTimeout ++ be16 p.closeTimeout ++ be16 p.testTimeout

/-- The parameters of LOAD_FROG's arguments, whatever their ranges, with the coded fields given. -/
def frogParamsAt (a : List Byte) (power normal reverse : SectionIx) (dflt : Route) (returns : Bool) (sense : Route) :
    FrogParams :=
  { ctrlAddr := argWord a 1, powerSection := power, normalLeg := normal, reverseLeg := reverse, dflt, returns
    throwTimeout := argU16 a 8, exitTimeout := argU32 a 10, wMin := argU16 a 14, wMax := argU16 a 16
    bounceGap := argU16 a 18, bounceMax := argU8 a 20, skateHold := argU16 a 21, drawSense := sense }

/-- The ranges of spec/05 section 5.1 and spec/04 section 4.1, with WMAX above WMIN (R169). -/
def FrogParams.inRanges (p : FrogParams) : Bool :=
  inRange 0x0001 0xFFFE p.ctrlAddr.toNat && inRange 100 5000 p.throwTimeout && inRange 1000 120000 p.exitTimeout
    && inRange 10 5000 p.wMin && inRange 100 60000 p.wMax && decide (p.wMin < p.wMax) && inRange 1 2000 p.bounceGap
    && inRange 0 15 p.bounceMax && inRange 100 30000 p.skateHold

/-- LOAD_FROG's arguments: the index and the parameters, if all are in range (R169). -/
def parseLoadFrog (a : List Byte) : Option (FrogIx × FrogParams) :=
  match indexOf 64 (argU8 a 0), indexOf 48 (argU8 a 3), indexOf 48 (argU8 a 4), indexOf 48 (argU8 a 5),
      twoCode Route.normal Route.reverse (argU8 a 6), twoCode false true (argU8 a 7),
      twoCode Route.normal Route.reverse (argU8 a 23) with
  | some f, some power, some normal, some reverse, some dflt, some returns, some sense =>
    if (frogParamsAt a power normal reverse dflt returns sense).inRanges then
      some (f, frogParamsAt a power normal reverse dflt returns sense)
    else none
  | _, _, _, _, _, _, _ => none

/-- The 23 parameter bytes of READ_FROG, laid out as LOAD_FROG's arguments (R171). -/
def FrogParams.bytes (p : FrogParams) : List Byte :=
  beWord p.ctrlAddr ++ [u8 p.powerSection.val, u8 p.normalLeg.val, u8 p.reverseLeg.val, p.dflt.code, flagByte p.returns]
    ++ be16 p.throwTimeout ++ be32 p.exitTimeout ++ be16 p.wMin ++ be16 p.wMax ++ be16 p.bounceGap
    ++ [u8 p.bounceMax] ++ be16 p.skateHold ++ [p.drawSense.code]

/-- The kind field of LOAD_FILTER: a KIND value, or 0xFFFF for ANY (R170). -/
def parseRuleKind (n : Nat) : Option (Option Byte) :=
  if n ≤ 0xFF then some (some (u8 n)) else if n = 0xFFFF then some none else none

/-- The port field of LOAD_FILTER (R170). -/
def parseRulePort (n : Nat) : Option RulePort :=
  match n with
  | 0 => some .uplink
  | 1 => some .field
  | 2 => some .either
  | _ => none

/-- LOAD_FILTER's arguments, if all are in range and source high is not below source low (R170). -/
def parseLoadFilter (a : List Byte) : Option (RuleIx × FilterRule) :=
  match indexOf 32 (argU8 a 0), twoCode false true (argU8 a 1), parseRulePort (argU8 a 2), parseRuleKind (argU16 a 3),
      twoCode false true (argU8 a 9) with
  | some r, some inUse, some port, some kind, some hold =>
    if argU16 a 5 ≤ argU16 a 7 then
      some (r, { inUse, port, kind, srcLow := argWord a 5, srcHigh := argWord a 7, hold })
    else none
  | _, _, _, _, _ => none

/-- SET_GLOBALS's arguments, if all six are in range (R166). -/
def parseGlobals (a : List Byte) : Option Globals :=
  match twoCode ArbMode.fixed ArbMode.rotating (argU8 a 4), twoCode ArbMode.fixed ArbMode.rotating (argU8 a 5) with
  | some arbField, some arbUplink =>
    if argU16 a 0 ≤ 0xFFFE ∧ inRange 5 1000 (argU16 a 2) ∧ inRange 1 200 (argU8 a 6)
        ∧ (argU16 a 7 = 0 ∨ inRange 10 3600 (argU16 a 7)) then
      some { centreAddr := argWord a 0, ackTimeout := argU16 a 2, arbField, arbUplink, settle := argU8 a 6
             vehAge := argU16 a 7 }
    else none
  | _, _ => none

/-- The globals laid out as SET_GLOBALS's arguments (R164). -/
def Globals.bytes (g : Globals) : List Byte :=
  beWord g.centreAddr ++ be16 g.ackTimeout ++ [g.arbField.code, g.arbUplink.code, u8 g.settle] ++ be16 g.vehAge

end Sys2Proof.Machine
end

