-- ==== Sys2Proof/Machine/Flags.lean ====
section
/-!
DEFINITION. The flags: the block set of a frog with its coding (spec/05 section 5.4, spec/09 section 9.1), the port flags
and NOTICE_LOST as STATUS codes them (R164), and the coded flag bytes of READ_SECTION and READ_VEHICLE (R171).
-/

namespace Sys2Proof.Machine

/-- The empty block set. -/
def BlockSet.empty : BlockSet :=
  { dewire := false, stall := false, position := false, overflow := false, exit := false, dispatch := false }

/-- The set holds the reason. -/
def BlockSet.has (b : BlockSet) : BlockReason → Bool
  | .dewire => b.dewire
  | .stall => b.stall
  | .position => b.position
  | .overflow => b.overflow
  | .exit => b.exit
  | .dispatch => b.dispatch

/-- The set with the reason put in (`v` true) or taken out (`v` false). -/
def BlockSet.put (b : BlockSet) (r : BlockReason) (v : Bool) : BlockSet :=
  match r with
  | .dewire => { b with dewire := v }
  | .stall => { b with stall := v }
  | .position => { b with position := v }
  | .overflow => { b with overflow := v }
  | .exit => { b with exit := v }
  | .dispatch => { b with dispatch := v }

/-- A frog is blocked while its block set is not empty (section 5.4). -/
def BlockSet.blocked (b : BlockSet) : Bool :=
  b.dewire || b.stall || b.position || b.overflow || b.exit || b.dispatch

/-- The flag of a block reason. -/
def BlockReason.flag : BlockReason → Nat
  | .dewire => 0x01
  | .stall => 0x02
  | .position => 0x04
  | .overflow => 0x08
  | .exit => 0x10
  | .dispatch => 0x20

/-- The sum of the flags of the reasons present. -/
def BlockSet.code (b : BlockSet) : Byte :=
  u8 ((if b.dewire then 0x01 else 0) + (if b.stall then 0x02 else 0) + (if b.position then 0x04 else 0)
    + (if b.overflow then 0x08 else 0) + (if b.exit then 0x10 else 0) + (if b.dispatch then 0x20 else 0))

/-- The reason a reason byte names, if the byte is one flag (R173). -/
def parseReason (n : Nat) : Option BlockReason :=
  match n with
  | 0x01 => some .dewire
  | 0x02 => some .stall
  | 0x04 => some .position
  | 0x08 => some .overflow
  | 0x10 => some .exit
  | 0x20 => some .dispatch
  | _ => none

/-- The flags byte of STATUS (R164). -/
def statusFlags (s : State) : Byte :=
  u8 ((if s.uplink.checkErr then 0x01 else 0) + (if s.uplink.forwardDrop then 0x02 else 0)
    + (if s.field.checkErr then 0x04 else 0) + (if s.field.forwardDrop then 0x08 else 0)
    + (if s.noticeLost then 0x10 else 0))

/-- The flags byte of READ_SECTION (R171). -/
def Protection.flagsByte (p : Protection) : Byte :=
  u8 ((if p.synced then 0x01 else 0) + (if p.window.isSome then 0x02 else 0) + (if p.blind then 0x04 else 0)
    + (if p.supplyLost then 0x08 else 0) + (if p.lowRun.isSome then 0x10 else 0))

/-- The entry holds at least one active fault (R124). -/
def Vehicle.faulted (v : Vehicle) : Bool := v.dewire.isSome || v.insulation || v.bounce

/-- The active faults byte of READ_VEHICLE (R171). -/
def Vehicle.faultsByte (v : Vehicle) : Byte :=
  u8 ((if v.dewire.isSome then 0x01 else 0) + (if v.insulation then 0x02 else 0) + (if v.bounce then 0x04 else 0))

end Sys2Proof.Machine
end

