-- ==== Sys2Proof/Machine/Ops.lean ====
section
/-!
DEFINITION. The named operations over the state that every block shares: timers of part time, the tables, the notice queue,
the order list's registration, the forward queues and the reply queue, and the starting values of the records.
-/

namespace Sys2Proof.Machine

/-! ## Timers (spec/00 section 4.2) -/

/-- Part time `now` has reached a deadline. Every deadline is set at most 65,535 ms ahead, so a difference (modulo 2³²)
of 1 to 65,535 means it lies ahead and any other that it is reached (section 4.2). -/
def reached (now deadline : Time) : Bool :=
  let ahead := (deadline - now).toNat
  decide (ahead = 0) || decide (65535 < ahead)

/-- A timer of `len` ms started now. -/
def Timer.start (now : Time) (len : Nat) : Timer := .running (now + BitVec.ofNat 32 len) 0 0

/-- A timer of `n` whole-second periods started now (section 4.2). -/
def Timer.startSeconds (now : Time) (n : Nat) : Timer := .running (now + BitVec.ofNat 32 1000) (n - 1) 1000

/-- The EXIT_TIMEOUT timer: a first period of half the length by integer division, then the remainder (R83). -/
def Timer.startHalves (now : Time) (len : Nat) : Timer := .running (now + BitVec.ofNat 32 (len / 2)) 1 (len - len / 2)

/-- The timer expires: it runs, in its last period, and the deadline is reached. -/
def Timer.expired (now : Time) : Timer → Bool
  | .running d 0 _ => reached now d
  | _ => false

/-- A period of the timer that is not its last has ended. -/
def Timer.periodEnded (now : Time) : Timer → Bool
  | .running d (_ + 1) _ => reached now d
  | _ => false

/-- The timer with its next period started at the end of the one that ended. -/
def Timer.nextPeriod : Timer → Timer
  | .running d (n + 1) p => .running (d + BitVec.ofNat 32 p) n p
  | t => t

/-- The time remaining to the timer's expiry in ms; none when stopped. -/
def Timer.remaining (now : Time) : Timer → Option Nat
  | .stopped => none
  | .running d n p =>
    if reached now d then some (n * p - (now - d).toNat) else some ((d - now).toNat + n * p)

/-! ## The tables -/

/-- A table with a function applied to every entry. -/
def mapTable {α β : Type} {n : Nat} (g : α → β) (v : Vector α n) : Vector β n :=
  ⟨⟨(List.finRange n).map fun i => g (v.get i)⟩, by simp⟩

/-- Section `i`, if it is configured. -/
def State.sect (s : State) (i : SectionIx) : Option Sect := s.sections.get i

/-- Frog `f`, if it is configured. -/
def State.frog (s : State) (f : FrogIx) : Option Frog := s.frogs.get f

/-- Test unit `u`. -/
def State.unit (s : State) (u : UnitIx) : TestUnit := s.units.get u

/-- Port `p`. -/
def State.port (s : State) : PortId → Port
  | .uplink => s.uplink
  | .field => s.field

/-- The other port. -/
def otherPort : PortId → PortId
  | .uplink => .field
  | .field => .uplink

def State.setSections (s : State) (v : Vector (Option Sect) 48) : State := { s with sections := v }

/-- Section `i` becomes `x`; none makes it UNCONFIGURED. -/
def State.putSect (s : State) (i : SectionIx) (x : Option Sect) : State :=
  s.setSections (s.sections.set i.val x i.isLt)

/-- Section `i`, if configured, changed by `g`. -/
def State.editSect (s : State) (i : SectionIx) (g : Sect → Sect) : State :=
  match s.sect i with
  | some x => s.putSect i (some (g x))
  | none => s

def State.setFrogs (s : State) (v : Vector (Option Frog) 64) : State := { s with frogs := v }

/-- Frog `f` becomes `x`; none makes it unconfigured. -/
def State.putFrog (s : State) (f : FrogIx) (x : Option Frog) : State :=
  s.setFrogs (s.frogs.set f.val x f.isLt)

/-- Frog `f`, if configured, changed by `g`. -/
def State.editFrog (s : State) (f : FrogIx) (g : Frog → Frog) : State :=
  match s.frog f with
  | some x => s.putFrog f (some (g x))
  | none => s

def State.setUnits (s : State) (v : Vector TestUnit 12) : State := { s with units := v }

/-- Test unit `u` becomes `x`. -/
def State.putUnit (s : State) (u : UnitIx) (x : TestUnit) : State := s.setUnits (s.units.set u.val x u.isLt)

def State.setVehicles (s : State) (v : List Vehicle) : State := { s with vehicles := v }

def State.setOrders (s : State) (l : List Order) : State := { s with orders := l }

def State.setFilter (s : State) (v : Vector FilterRule 32) : State := { s with filter := v }

def State.setUplink (s : State) (p : Port) : State := { s with uplink := p }

def State.setField (s : State) (p : Port) : State := { s with field := p }

/-- Port `p` becomes `x`. -/
def State.putPort (s : State) (p : PortId) (x : Port) : State :=
  match p with
  | .uplink => s.setUplink x
  | .field => s.setField x

def State.setNotices (s : State) (l : List Notice) : State := { s with notices := l }

def State.setNoticeLost (s : State) (b : Bool) : State := { s with noticeLost := b }

def State.setReplies (s : State) (l : List Reply) : State := { s with replies := l }

def State.setGlobals (s : State) (g : Globals) : State := { s with globals := g }

def State.setActivity (s : State) (a : Activity) : State := { s with activity := a }

def State.setPartTime (s : State) (t : Time) : State := { s with partTime := t }

def State.setFreeCount (s : State) (n : Nat) : State := { s with freeCount := n }

def State.setPending (s : State) (l : List Instr) : State := { s with pending := l }

/-- The configured section whose FEEDER_ADDR is `a` (R4, R127). -/
def State.sectAt (s : State) (a : LineAddr) : Option SectionIx :=
  (List.finRange 48).find? fun i => match s.sect i with
    | some x => decide (x.params.feederAddr = a)
    | none => false

/-- The configured frog whose CTRL_ADDR is `a` (R67, R127). -/
def State.frogAt (s : State) (a : LineAddr) : Option FrogIx :=
  (List.finRange 64).find? fun f => match s.frog f with
    | some g => decide (g.params.ctrlAddr = a)
    | none => false

/-- Section `i` is powered: LIVE with SUPPLY_LOST clear (R25). -/
def State.powered (s : State) (i : SectionIx) : Bool :=
  match s.sect i with
  | some x => decide (x.state = .live) && !x.prot.supplyLost
  | none => false

/-- Section `i` is LIVE. -/
def State.isLive (s : State) (i : SectionIx) : Bool :=
  match s.sect i with
  | some x => decide (x.state = .live)
  | none => false

/-- The vehicle count of section `i` (R125). -/
def State.vehicleCount (s : State) (i : SectionIx) : Nat :=
  (s.vehicles.filter fun v => decide (v.located = some i)).length

/-- The leak count of section `i` (R125). -/
def State.leakCount (s : State) (i : SectionIx) : Nat :=
  (s.vehicles.filter fun v => decide (v.located = some i) && v.insulation).length

/-! ## Notices (R157, R158) -/

/-- A notice is raised: dropped while CENTRE_ADDR is 0x0000, else offered to the queue, which discards it and sets
NOTICE_LOST when it holds 24. -/
def raise (b : NoticeBody) (s : State) : State :=
  if s.globals.centreAddr = 0x0000 then s
  else if s.notices.length < Config.noticeCapacity then
    s.setNotices (s.notices ++ [{ dest := s.globals.centreAddr, body := b }])
  else s.setNoticeLost true

/-- The SECTION_STATE notice of a configured section (R51). -/
def raiseSection (i : SectionIx) (s : State) : State :=
  match s.sect i with
  | some x => raise (.sectionState i x.state x.tripReason x.lockReason x.attempts x.prot.h) s
  | none => s

/-- The head kind of a queue entry. -/
def RequestKind.headKind : RequestKind → HeadKind
  | .passage _ _ => .passage
  | .dispatch => .dispatch
  | .returning => .returning

/-- The head as a FROG_STATE notice carries it (R105). -/
def headView : List Request → Option (HeadKind × Route × RequestPhase)
  | r :: _ => some (r.kind.headKind, r.target, r.phase)
  | [] => none

/-- The FROG_STATE notice of a configured frog (R105). -/
def raiseFrog (f : FrogIx) (s : State) : State :=
  match s.frog f with
  | some g => raise (.frogState f g.position (headView g.queue) g.queue.length) s
  | none => s

/-- The payload of a NOTICE frame (spec/09 section 9.1). -/
def NoticeBody.payload : NoticeBody → List Byte
  | .start c m => [0x01, 0x00, 0x00, c.code, m.code]
  | .sectionState i st tr lk att h =>
    [0x02, 0x00, u8 i.val, st.code, st.subCode, tripCode tr, lockCode lk, u8 att] ++ be32 h
  | .sectionUnloaded i tr lk att h => [0x02, 0x00, u8 i.val, 0x00, 0x00, tr, lk, att] ++ h
  | .sectionFlag i fl v => [0x03, 0x00, u8 i.val, fl.code, flagByte v]
  | .frogState f p head n =>
    [0x04, 0x00, u8 f.val, p.code, p.targetCode]
      ++ (match head with
          | some (k, t, ph) => [k.code, t.code, ph.code]
          | none => [0x00, 0xFF, 0xFF])
      ++ [u8 n]
  | .frogBlock f r added b => [0x05, 0x00, u8 f.val, u8 r.flag, flagByte added, b.code]
  | .vehicleFault n c p => [0x06] ++ bcdBytes n ++ [c.code] ++ p.codes
  | .orderRefused a k r => [0x07] ++ beWord a ++ [k, r.code]
  | .tableFull n => [0x08] ++ bcdBytes n

/-! ## The field order list: registration (R129 to R132) -/

/-- TRIP and OPEN are URGENT, the other four kinds NORMAL (spec/07 section 7.1). -/
def OrderKind.urgent : OrderKind → Bool
  | .trip => true
  | .opening => true
  | _ => false

/-- THROW_NORMAL and THROW_REVERSE. -/
def OrderKind.isThrow : OrderKind → Bool
  | .throwNormal => true
  | .throwReverse => true
  | _ => false

/-- The order that throws a frog to a position. -/
def throwKind : Route → OrderKind
  | .normal => .throwNormal
  | .reverse => .throwReverse

/-- The list's answer to a registration (section 7.2). -/
inductive RegAnswer
  | taken | merged | conflict | noRoom
  deriving DecidableEq, Repr

/-- The answer tells the owner that its order is registered. -/
def RegAnswer.registered : RegAnswer → Bool
  | .taken => true
  | .merged => true
  | _ => false

/-- There is room for an order of this urgency: 1 free entry for an URGENT order, 5 for a NORMAL one (R129). -/
def hasRoom (l : List Order) (k : OrderKind) : Bool :=
  decide ((if k.urgent then 1 else Config.orderReserve + 1) ≤ Config.orderCapacity - l.length)

/-- Registration judged on room alone (R129). -/
def registerFresh (l : List Order) (a : LineAddr) (k : OrderKind) : List Order × RegAnswer :=
  if hasRoom l k then (l ++ [{ target := a, kind := k, state := .queued }], .taken) else (l, .noRoom)

/-- A registration (R129 to R132): merge, supersession or conflict by the live entry with the target, else room. -/
def register (l : List Order) (a : LineAddr) (k : OrderKind) : List Order × RegAnswer :=
  match l.find? fun e => decide (e.target = a) with
  | none => registerFresh l a k
  | some e =>
    if e.kind = k then (l, .merged)
    else if k.urgent && !e.kind.urgent then registerFresh (l.filter fun e' => decide (e'.target ≠ a)) a k
    else (l, .conflict)

/-- A live entry has the target. -/
def State.orderTo (s : State) (a : LineAddr) : Bool := s.orders.any fun e => decide (e.target = a)

/-- A THROW order to the target is live (R93). -/
def State.throwLive (s : State) (a : LineAddr) : Bool :=
  s.orders.any fun e => decide (e.target = a) && e.kind.isThrow

/-! ## Ports: flags, forward queues, the outward line (R143, R150) -/

/-- CHECK_ERR is set on the port of arrival (R143). -/
def setCheckErr (p : PortId) (s : State) : State := s.putPort p { s.port p with checkErr := true }

/-- A frame that arrived on `p` joins the other port's forward queue, or is dropped with FORWARD_DROP set on `p` (R150). -/
def forward (p : PortId) (f : Frame) (s : State) : State :=
  if (s.port (otherPort p)).forward.length < Config.forwardCapacity then
    s.putPort (otherPort p) { s.port (otherPort p) with forward := (s.port (otherPort p)).forward ++ [f] }
  else s.putPort p { s.port p with forwardDrop := true }

/-- These bytes leave by port `p` (log entry 9). -/
def putLine (p : PortId) (bytes : List Byte) (s : State) : State :=
  s.putPort p { s.port p with line := bytes }

/-! ## Starting values of the records -/

/-- The dynamic protection record at its initial values (R2), the silence timer stopped. -/
def Protection.starting : Protection :=
  { iPrev := 0, iLast := 0, expectedSeq := 0, synced := false, window := none, h := 0, blind := false
    supplyLost := false, lowRun := none, silence := .stopped }

/-- A section's silence timer started now if the mode is SUPERVISE (R20). -/
def silenceFor (mode : Mode) (now : Time) (p : SectionParams) : Timer :=
  match mode with
  | .supervise => Timer.start now p.silenceTime
  | .bypass => .stopped

/-- A configured section with its dynamic fields at the values of R2 and R28. -/
def Sect.starting (mode : Mode) (now : Time) (p : SectionParams) : Sect :=
  { params := p, prot := { Protection.starting with silence := silenceFor mode now p }, state := .unknown
    attempts := 0, origin := none, tripReason := none, lockReason := none, lastReport := none
    isolateOnOpen := false, timer := .stopped, wait := none }

/-- A capture record at the values of R66. -/
def Capture.starting : Capture :=
  { phase := .idle, riseTick := 0, fallTick := 0, drawHigh := false, drawStart := .none, drawTotal := 0, bounces := 0
    tag := none, stall := false, settle := .stopped, hold := .stopped, last := none }

/-- A configured frog with its dynamic fields at the values of R66 and R84. -/
def Frog.starting (p : FrogParams) : Frog :=
  { params := p, position := .unknown, blocks := BlockSet.empty, untracked := false, queue := [], throwTimer := .stopped
    exitTimer := .stopped, wait := none, capture := Capture.starting }

/-! ## Free values (log entries 15 and 16) -/

/-- The next `k` free bytes. -/
def freeBytes (s : State) (k : Nat) : List Byte := (List.range k).map fun j => Config.freeByte (s.freeCount + j)

/-- The free byte `j` places on. -/
def freeByteAt (s : State) (j : Nat) : Byte := Config.freeByte (s.freeCount + j)

end Sys2Proof.Machine
end

