-- ==== Sys2Proof/Machine/Frogs.lean ====
section
/-!
DEFINITION. The frog controller (spec/05): block sets, the head check and the service of the head, the request queue,
position reports, failures, flushing and the frog's side of order endings. An operation that works on one frog answers
the state and whether the event changed the frog's position, its moving target, or the kind or phase of its head;
`noteFrog` then raises the FROG_STATE notice (R105; log entry 13).
-/

namespace Sys2Proof.Machine

/-- A state, and whether the frog's position or head was changed on the way. -/
abbrev FrogWork := State × Bool

/-- One operation on a frog after another. -/
def FrogWork.followedBy (w : FrogWork) (g : State → FrogWork) : FrogWork :=
  ((g w.1).1, w.2 || (g w.1).2)

/-- The FROG_STATE notice at the end of an event that changed the frog (R105). -/
def noteFrog (f : FrogIx) (w : FrogWork) : State := if w.2 then raiseFrog f w.1 else w.1

/-- The three conditions of R93 under which a WAITING head is served. -/
def headReady (s : State) (g : Frog) : Bool :=
  !g.blocks.blocked && s.powered g.params.powerSection && !s.throwLive g.params.ctrlAddr

/-- A WAITING head whose position differs from its target registers its THROW (R94): taken, it goes to THROWING; refused,
it stays WAITING with a registration wait. -/
def serveByThrow (f : FrogIx) (g : Frog) (r : Request) (rest : List Request) (s : State) : FrogWork :=
  let reg := register s.orders g.params.ctrlAddr (throwKind r.target)
  if reg.2.registered then
    ((s.setOrders reg.1).putFrog f (some { g with
        queue := { r with phase := .throwing } :: rest
        position := .moving r.target
        throwTimer := Timer.start s.partTime g.params.throwTimeout
        wait := none }), true)
  else ((s.setOrders reg.1).putFrog f (some { g with wait := some r.target }), false)

/-- The check of a frog's head, `queue` being the frog's queue (R93, R94, R100): nothing for no head or a head THROWING or
SET; the registration wait withdrawn where the conditions do not hold; else the head is served. A served DISPATCH or
RETURN entry already at its target is removed and the next head checked. -/
def checkQueue (f : FrogIx) : List Request → State → FrogWork
  | [], s => (s, false)
  | r :: rest, s =>
    match s.frog f with
    | none => (s, false)
    | some g =>
      if r.phase ≠ .waiting then (s, false)
      else if headReady s g then
        if g.position = .at r.target then
          match r.kind with
          | .passage _ _ =>
            (s.putFrog f (some { g with
                queue := { r with phase := .set } :: rest
                exitTimer := Timer.startHalves s.partTime g.params.exitTimeout
                wait := none }), true)
          | _ => ((checkQueue f rest (s.putFrog f (some { g with queue := rest, wait := none }))).1, true)
        else serveByThrow f g r rest s
      else (s.putFrog f (some { g with wait := none }), false)

/-- The check of frog `f`'s head (R93). -/
def checkHead (f : FrogIx) (s : State) : FrogWork :=
  match s.frog f with
  | some g => checkQueue f g.queue s
  | none => (s, false)

/-- The heads of all frogs whose POWER_SECTION is `i` are checked, in frog index order (R25, R93). -/
def checkHeadsOf (i : SectionIx) (s : State) : State :=
  (List.finRange 64).foldl (fun t f => match t.frog f with
    | some g => if g.params.powerSection = i then noteFrog f (checkHead f t) else t
    | none => t) s

/-! ## The block set (R86 to R88) -/

/-- A reason is put into a frog's block set; a change raises FROG_BLOCK, and one from empty to non-empty has the head
checked (R86). -/
def addBlock (f : FrogIx) (r : BlockReason) (s : State) : FrogWork :=
  match s.frog f with
  | none => (s, false)
  | some g =>
    if g.blocks.has r then (s, false)
    else
      let b := g.blocks.put r true
      let t := raise (.frogBlock f r true b) (s.putFrog f (some { g with blocks := b }))
      if g.blocks.blocked then (t, false) else checkHead f t

/-- A reason is taken out of a frog's block set; a change raises FROG_BLOCK and has the head checked (R86). -/
def removeBlock (f : FrogIx) (r : BlockReason) (s : State) : FrogWork :=
  match s.frog f with
  | none => (s, false)
  | some g =>
    if g.blocks.has r then
      let b := g.blocks.put r false
      checkHead f (raise (.frogBlock f r false b) (s.putFrog f (some { g with blocks := b })))
    else (s, false)

/-- OVERFLOW is removed when the queue has become empty (R92). -/
def clearOverflowIfEmpty (f : FrogIx) (s : State) : FrogWork :=
  match s.frog f with
  | some g => if g.queue = [] then removeBlock f .overflow s else (s, false)
  | none => (s, false)

/-- Some vehicle entry holds an active DEWIRE at frog `f`. -/
def State.dewiredAt (s : State) (f : FrogIx) : Bool := s.vehicles.any fun v => decide (v.dewire = some (some f))

/-- The review of DEWIRE at a frog (R87). -/
def reviewDewire (f : FrogIx) (s : State) : FrogWork :=
  match s.frog f with
  | some g => if s.dewiredAt f || g.untracked then (s, false) else removeBlock f .dewire s
  | none => (s, false)

/-! ## Joining the queue (R89 to R91) -/

/-- An entry joins the tail in phase WAITING; one that becomes the head is checked at once (R89). -/
def joinQueue (f : FrogIx) (k : RequestKind) (target : Route) (s : State) : FrogWork :=
  match s.frog f with
  | none => (s, false)
  | some g =>
    let t := s.putFrog f (some { g with queue := g.queue ++ [{ kind := k, target, phase := .waiting }] })
    if g.queue = [] then FrogWork.followedBy (t, true) (checkHead f) else (t, false)

/-- A passage handed over by the skate capture unit (R90): it joins, or is discarded with OVERFLOW added. -/
def takePassage (f : FrogIx) (route : Route) (tag : Option VehicleNumber) (width : Tick) (s : State) : FrogWork :=
  match s.frog f with
  | none => (s, false)
  | some g =>
    if g.queue.length < Config.requestCapacity then joinQueue f (.passage tag width) route s
    else addBlock f .overflow s

/-- A dispatcher throw (R91): it joins, or is refused with reason FULL. -/
def dispatcherThrow (f : FrogIx) (target : Route) (s : State) : State :=
  match s.frog f with
  | none => s
  | some g =>
    if g.queue.length < Config.requestCapacity then noteFrog f (joinQueue f .dispatch target s)
    else raise (.orderRefused g.params.ctrlAddr (throwKind target).code .full) s

/-! ## Throws: reports and failures (R98, R99, R103) -/

/-- A head that reaches SET by a report of its target (R98, R100). -/
def setHead (f : FrogIx) (s : State) : FrogWork :=
  match s.frog f with
  | none => (s, false)
  | some g =>
    match g.queue with
    | [] => (s, false)
    | r :: rest =>
      let g' := { g with position := .at r.target, throwTimer := .stopped }
      match r.kind with
      | .passage _ _ =>
        (s.putFrog f (some { g' with
            queue := { r with phase := .set } :: rest
            exitTimer := Timer.startHalves s.partTime g.params.exitTimeout }), true)
      | _ =>
        FrogWork.followedBy (FrogWork.followedBy (s.putFrog f (some { g' with queue := rest }), true)
          (clearOverflowIfEmpty f)) (checkHead f)

/-- A failure of the throw (R98 LOST, R99): the throw timer stopped, the position UNKNOWN, POSITION added, the head back to
WAITING and checked. -/
def failThrow (f : FrogIx) (s : State) : FrogWork :=
  match s.frog f with
  | none => (s, false)
  | some g =>
    match g.queue with
    | [] => (s, false)
    | r :: rest =>
      FrogWork.followedBy (FrogWork.followedBy
        (s.putFrog f (some { g with
          position := .unknown, throwTimer := .stopped, queue := { r with phase := .waiting } :: rest }), true)
        (addBlock f .position)) (checkHead f)

/-- The head of the queue is in this phase. -/
def headIn (ph : RequestPhase) : List Request → Bool
  | r :: _ => decide (r.phase = ph)
  | [] => false

/-- The head of the queue is a PASSAGE entry in SET. -/
def headSetPassage : List Request → Bool
  | { kind := .passage _ _, target := _, phase := .set } :: _ => true
  | _ => false

/-- The head's target. -/
def headTarget : List Request → Option Route
  | r :: _ => some r.target
  | [] => none

/-- A report with no head THROWING moves the position (R103): POSITION is added under a set passage, and a WAITING head is
checked. -/
def movePosition (f : FrogIx) (p : Position) (s : State) : FrogWork :=
  match s.frog f with
  | none => (s, false)
  | some g =>
    if g.position = p then (s, false)
    else
      let w : FrogWork := (s.putFrog f (some { g with position := p }), true)
      if headSetPassage g.queue then w.followedBy (addBlock f .position)
      else if headIn .waiting g.queue then w.followedBy (checkHead f)
      else w

/-- A processed POSITION report (R97): R98 with a head THROWING, R103 otherwise. -/
def positionWork (f : FrogIx) (rep : PositionReport) (s : State) : FrogWork :=
  match s.frog f with
  | none => (s, false)
  | some g =>
    if headIn .throwing g.queue then
      match rep with
      | .at r => if headTarget g.queue = some r then setHead f s else (s, false)
      | .moving => (s, false)
      | .lost => failThrow f s
    else
      match rep with
      | .at r => movePosition f (.at r) s
      | .moving => (s, false)
      | .lost => movePosition f .unknown s

/-! ## Timers, endings, waits, flushing -/

/-- The throw timer expires with the head THROWING (R99). -/
def throwExpiry (f : FrogIx) (s : State) : State :=
  match s.frog f with
  | none => s
  | some g =>
    if g.throwTimer.expired s.partTime && headIn .throwing g.queue then noteFrog f (failThrow f s) else s

/-- The exit timer expires with a PASSAGE head in SET (R102): the entry is removed, OVERFLOW with it if the queue empties,
EXIT is added and the next head is checked. -/
def exitExpiry (f : FrogIx) (s : State) : State :=
  match s.frog f with
  | none => s
  | some g =>
    if g.exitTimer.expired s.partTime && headSetPassage g.queue then
      noteFrog f (FrogWork.followedBy (FrogWork.followedBy (FrogWork.followedBy
        (s.putFrog f (some { g with queue := g.queue.tail, exitTimer := .stopped }), true)
        (clearOverflowIfEmpty f)) (addBlock f .exit)) (checkHead f))
    else s

/-- The first period of EXIT_TIMEOUT ends and the second starts (R83). -/
def exitFirstPeriod (f : FrogIx) (s : State) : State :=
  match s.frog f with
  | none => s
  | some g =>
    if g.exitTimer.periodEnded s.partTime then s.putFrog f (some { g with exitTimer := g.exitTimer.nextPeriod }) else s

/-- The frog is told of the ending of one of its orders (R96): a failed THROW fails a THROWING head, and any ending of a
THROW has the head checked. -/
def frogEnding (f : FrogIx) (k : OrderKind) (accepted : Bool) (s : State) : State :=
  match s.frog f with
  | none => s
  | some g =>
    if k.isThrow then
      noteFrog f (FrogWork.followedBy
        (if !accepted && headIn .throwing g.queue then failThrow f s else (s, false)) (checkHead f))
    else s

/-- FLUSH_FROG (R104): every WAITING entry and OVERFLOW are removed. -/
def flushFrog (f : FrogIx) (s : State) : State :=
  match s.frog f with
  | none => s
  | some g =>
    noteFrog f (FrogWork.followedBy
      (s.putFrog f (some { g with
          queue := g.queue.filter fun r => decide (r.phase ≠ .waiting)
          wait := if headIn .waiting g.queue then none else g.wait }), headIn .waiting g.queue)
      (removeBlock f .overflow))

end Sys2Proof.Machine
end

