-- ==== Sys2Proof/Machine/Vehicles.lean ====
section
/-!
DEFINITION. The vehicle table (spec/06): entries, creation and eviction, ageing, fault lists, VEHICLE reports, passages,
and what the table tells the frogs. The table is listed in increasing vehicle number; the slot of an entry is internal
and is not modelled (spec/00 section 4.6, log entry 22).
-/

namespace Sys2Proof.Machine

/-- The entry of number `n`, if the table holds it. -/
def State.vehicle (s : State) (n : VehicleNumber) : Option Vehicle := s.vehicles.find? fun v => decide (v.number = n)

/-- The list with an entry put in its place by number, replacing one of the same number. -/
def insertVehicle (v : Vehicle) : List Vehicle → List Vehicle
  | [] => [v]
  | w :: rest =>
    if v.number < w.number then v :: w :: rest
    else if v.number = w.number then v :: rest
    else w :: insertVehicle v rest

/-- The list without the entry of number `n`. -/
def eraseVehicle (n : VehicleNumber) (l : List Vehicle) : List Vehicle := l.filter fun v => decide (v.number ≠ n)

/-- The entry of number `n`, if held, changed by `g`. -/
def State.editVehicle (s : State) (n : VehicleNumber) (g : Vehicle → Vehicle) : State :=
  s.setVehicles (s.vehicles.map fun v => if v.number = n then g v else v)

/-- A new entry (R110). -/
def Vehicle.starting (n : VehicleNumber) : Vehicle :=
  { number := n, located := none, lastHeard := 0, age := 0, dewire := none, insulation := false, bounce := false
    faults := [], listLost := false, ageTimer := .stopped, clearedAt := none }

/-- The entry to evict (R110): among those with no active fault the one of greatest age, the lowest number among equals. -/
def evictee (l : List Vehicle) : Option Vehicle :=
  (l.filter fun v => !v.faulted).foldl (fun best v => match best with
    | none => some v
    | some b => if b.age < v.age ∨ (b.age = v.age ∧ v.number < b.number) then some v else some b) none

/-- The entry of a number is found, or made by R110 with an eviction if the table is full; when none can be made TABLE_FULL
is raised and the answer is false (R111). -/
def obtainVehicle (n : VehicleNumber) (s : State) : State × Bool :=
  if (s.vehicle n).isSome then (s, true)
  else if s.vehicles.length < Config.vehicleCapacity then
    (s.setVehicles (insertVehicle (Vehicle.starting n) s.vehicles), true)
  else match evictee s.vehicles with
    | some v => (s.setVehicles (insertVehicle (Vehicle.starting n) (eraseVehicle v.number s.vehicles)), true)
    | none => (raise (.tableFull n) s, false)

/-- An age timer restarted with VEH_AGE, or stopped while VEH_AGE is 0 (R123). -/
def ageTimerFor (vehAge : Nat) (now : Time) : Timer := if vehAge = 0 then .stopped else Timer.startSeconds now vehAge

/-- An entry with its age timer restarted (R123), which ends what a CLEAR_BLOCK left with it (log entry 28). -/
def Vehicle.ageRestarted (vehAge : Nat) (now : Time) (v : Vehicle) : Vehicle :=
  { v with ageTimer := ageTimerFor vehAge now, clearedAt := none }

/-- An entry's last heard set to now, its age timer restarted (R109, R119, R120, R123). -/
def Vehicle.heardAt (vehAge : Nat) (now : Time) (v : Vehicle) : Vehicle :=
  ({ v with lastHeard := now, age := 0 }).ageRestarted vehAge now

/-- The entry of number `n` is heard of now. -/
def hearVehicle (n : VehicleNumber) (s : State) : State :=
  s.editVehicle n (Vehicle.heardAt s.globals.vehAge s.partTime)

/-- A record joins the tail of a fault list; a list of four loses its oldest and LIST_LOST is set (R117). -/
def Vehicle.addRecord (r : FaultRecord) (v : Vehicle) : Vehicle :=
  if v.faults.length < Config.faultCapacity then { v with faults := v.faults ++ [r] }
  else { v with faults := v.faults.tail ++ [r], listLost := true }

/-- A fault record is appended to the entry of `n` and its VEHICLE_FAULT notice raised (R117). -/
def appendFault (n : VehicleNumber) (c : FaultCode) (p : Place) (s : State) : State :=
  raise (.vehicleFault n c p) (s.editVehicle n (Vehicle.addRecord { code := c, place := p, heard := s.partTime }))

/-- A completed passage places its vehicle in the leg section (R120). -/
def placeVehicle (n : VehicleNumber) (i : SectionIx) (s : State) : State :=
  let o := obtainVehicle n s
  if o.2 then (hearVehicle n o.1).editVehicle n fun v => { v with located := some i } else o.1

/-- A bounced passage gives its vehicle an active BOUNCE and a record (R119). -/
def bounceVehicle (n : VehicleNumber) (f : FrogIx) (s : State) : State :=
  let o := obtainVehicle n s
  if o.2 then appendFault n .bounce (.atFrog f) ((hearVehicle n o.1).editVehicle n fun v => { v with bounce := true })
  else o.1

/-- The frog controller is told to add DEWIRE (R121). -/
def addDewire (f : FrogIx) (s : State) : State := noteFrog f (addBlock f .dewire s)

/-- The frog controller is told to add DEWIRE and to set the untracked dewire flag (R111, R121). -/
def addUntrackedDewire (f : FrogIx) (s : State) : State :=
  addDewire f (s.editFrog f fun g => { g with untracked := true })

/-- The frog controller is asked to review DEWIRE at the frog of an active DEWIRE that has left an entry (R121). -/
def reviewLeft (d : Option (Option FrogIx)) (s : State) : State :=
  match d with
  | some (some f) => noteFrog f (reviewDewire f s)
  | _ => s

/-- The place of a DEWIRE record (R113). -/
def dewirePlace (i : Option SectionIx) (f : Option FrogIx) : Place :=
  match f, i with
  | some f, _ => .atFrog f
  | none, some i => .inSection i
  | none, none => .nowhere

/-- The place of an INSULATION record (R114). -/
def insulationPlace : Option SectionIx → Place
  | some i => .inSection i
  | none => .nowhere

/-- An entry placed in the section a report names, if it names one. -/
def Vehicle.placedIn (i : Option SectionIx) (v : Vehicle) : Vehicle :=
  match i with
  | some i => { v with located := some i }
  | none => v

/-- A DEWIRE report on the held entry of `n` (R113). -/
def dewireReport (n : VehicleNumber) (i : Option SectionIx) (f : Option FrogIx) (s : State) : State :=
  let old := (s.vehicle n).bind Vehicle.dewire
  let s1 := s.editVehicle n fun v => ({ v with dewire := some f }).placedIn i
  let s2 := appendFault n .dewire (dewirePlace i f) s1
  let s3 := match f with
    | some f => addDewire f s2
    | none => s2
  if old = some f then s3 else reviewLeft old s3

/-- An INSULATION report on the held entry of `n` (R114). -/
def insulationReport (n : VehicleNumber) (i : Option SectionIx) (s : State) : State :=
  appendFault n .insulation (insulationPlace i)
    (s.editVehicle n fun v => ({ v with insulation := true }).placedIn i)

/-- The scope removes an active DEWIRE. -/
def ClearScope.takesDewire : ClearScope → Bool
  | .dewire => true
  | .all => true
  | _ => false

/-- The faults of the scope removed from an entry (R115). -/
def Vehicle.cleared (c : ClearScope) (v : Vehicle) : Vehicle :=
  match c with
  | .dewire => { v with dewire := none }
  | .insulation => { v with insulation := false }
  | .bounce => { v with bounce := false }
  | .all => { v with dewire := none, insulation := false, bounce := false }

/-- A CLEAR report on the held entry of `n` (R115). -/
def clearReport (n : VehicleNumber) (c : ClearScope) (s : State) : State :=
  let old := (s.vehicle n).bind Vehicle.dewire
  let s1 := s.editVehicle n (Vehicle.cleared c)
  if c.takesDewire then reviewLeft old s1 else s1

/-- The entry of `n` is removed, and DEWIRE reviewed at the frog its active DEWIRE held (R116). -/
def signOff (n : VehicleNumber) (s : State) : State :=
  match s.vehicle n with
  | some v => reviewLeft v.dewire (s.setVehicles (eraseVehicle n s.vehicles))
  | none => s

/-- The changes of a report's kind, made on the held entry (R112 to R116). -/
def reportOnEntry (n : VehicleNumber) (r : VehicleReport) (s : State) : State :=
  match r with
  | .locate i => s.editVehicle n fun v => { v with located := i }
  | .dewire i f => dewireReport n i f s
  | .insulation i => insulationReport n i s
  | .clear c => clearReport n c s
  | .signOff => signOff n s

/-- An untracked report (R111): only a DEWIRE naming a frog has a further effect. -/
def untrackedReport (r : VehicleReport) (s : State) : State :=
  match r with
  | .dewire _ (some f) => addUntrackedDewire f s
  | _ => s

/-- A processed VEHICLE report (R109). -/
def takeReport (n : VehicleNumber) (r : VehicleReport) (s : State) : State :=
  if r = .signOff then signOff n s
  else
    let o := obtainVehicle n s
    if o.2 then reportOnEntry n r (hearVehicle n o.1) else untrackedReport r o.1

/-- A CLEAR_BLOCK removed the last active fault of the entry less than VEH_AGE ago, and its age timer has not been started
since (R123, log entry 28). -/
def Vehicle.newlyCleared (vehAge : Nat) (now : Time) (v : Vehicle) : Bool :=
  v.clearedAt.any fun t => decide ((now - t).toNat < vehAge * 1000)

/-- The entry outlives its age timer's expiry (R123): it has an active fault, or a CLEAR_BLOCK took its last one less than
VEH_AGE ago and R123's bar on its removal holds (free: log entry 28). -/
def Vehicle.outlives (vehAge : Nat) (now : Time) (v : Vehicle) : Bool :=
  v.faulted || (v.newlyCleared vehAge now && !Config.clearedAgesOut)

/-- An age timer expires (R123): a fault-free entry is removed, a faulted one has its timer restarted. An entry whose last fault
CLEAR_BLOCK took less than VEH_AGE ago is one or the other (free: log entry 28). -/
def ageExpiry (n : VehicleNumber) (s : State) : State :=
  match s.vehicle n with
  | none => s
  | some v =>
    if v.ageTimer.expired s.partTime then
      if v.outlives s.globals.vehAge s.partTime then s.editVehicle n (Vehicle.ageRestarted s.globals.vehAge s.partTime)
      else s.setVehicles (eraseVehicle n s.vehicles)
    else s

/-- A whole-second period of an age timer ends before the last (R123). -/
def agePeriod (n : VehicleNumber) (s : State) : State :=
  s.editVehicle n fun v =>
    if v.ageTimer.periodEnded s.partTime then { v with ageTimer := v.ageTimer.nextPeriod } else v

/-- An entry with its active DEWIRE removed by CLEAR_BLOCK (R122); one left with no active fault keeps the part time for its age
timer's expiry (R123, log entry 28). -/
def Vehicle.unblocked (now : Time) (v : Vehicle) : Vehicle :=
  { v with dewire := none, clearedAt := if v.insulation || v.bounce then v.clearedAt else some now }

/-- CLEAR_BLOCK for DEWIRE: the active DEWIRE at the frog leaves every entry that holds one, and no age timer changes (R122). -/
def dropDewireAt (f : FrogIx) (s : State) : State :=
  s.setVehicles (s.vehicles.map fun v => if v.dewire = some (some f) then v.unblocked s.partTime else v)

/-- UNLOAD_FROG: each active DEWIRE at the frog stays as one with no frog (R122). -/
def forgetFrog (f : FrogIx) (s : State) : State :=
  s.setVehicles (s.vehicles.map fun v => if v.dewire = some (some f) then { v with dewire := some none } else v)

/-- UNLOAD_SECTION: the section leaves every entry that names it (R122). -/
def forgetSection (i : SectionIx) (s : State) : State :=
  s.setVehicles (s.vehicles.map fun v => if v.located = some i then { v with located := none } else v)

/-- Derived vehicle states (R124). -/
inductive DerivedState
  | faulted | stranded | inService | unlocated
  deriving DecidableEq, Repr

/-- The derived state of an entry (R124). -/
def State.derived (s : State) (v : Vehicle) : DerivedState :=
  if v.faulted then .faulted
  else match v.located with
    | some i => if s.powered i then .inService else .stranded
    | none => .unlocated

def DerivedState.code : DerivedState → Byte
  | .faulted => 0x00
  | .stranded => 0x01
  | .inService => 0x02
  | .unlocated => 0x03

end Sys2Proof.Machine
end

