-- ==== Sys2Proof/Machine/Sections.lean ====
section
/-!
DEFINITION. The section controller and the test unit arbiter (spec/02, spec/03): entry to a state with its timer, its order
and its notice, the test units' grant and release, attempts and their failures, breaker reports, isolate and energize
requests, results and timers.
-/

namespace Sys2Proof.Machine

/-! ## Entry to a state -/

/-- The state timer on entry to a state (spec/02 section 2.2, R28). -/
def entryTimer (now : Time) (st : SectionState) (p : SectionParams) : Timer :=
  match st with
  | .energizing .testing => Timer.start now p.testTimeout
  | .energizing .closing => Timer.start now p.closeTimeout
  | .live => Timer.startSeconds now p.reclaimTime
  | .tripping => Timer.start now p.openTimeout
  | .isolating => Timer.start now p.openTimeout
  | .deadWait => Timer.start now p.recloseDead
  | _ => .stopped

/-- The order registered on entry to a state (spec/02 section 2.9). -/
def entryOrder : SectionState → Option OrderKind
  | .tripping => some .trip
  | .isolating => some .opening
  | .energizing .testing => some .test
  | .energizing .closing => some .close
  | _ => none

/-- Leaving LIVE closes the ΔI window (R13), ends a low run and clears SUPPLY_LOST (R24). -/
def Protection.leftLive (p : Protection) : Protection := { p with window := none, lowRun := none, supplyLost := false }

/-- A section that enters a state: its state timer set, its registration wait withdrawn, LIVE left if it was held. -/
def Sect.entered (now : Time) (st : SectionState) (x : Sect) : Sect :=
  { x with
    state := st
    timer := entryTimer now st x.params
    wait := none
    prot := if x.state = .live ∧ st ≠ .live then x.prot.leftLive else x.prot }

/-- Section `i` registers an order of a kind; a refused registration leaves a registration wait (R49). -/
def registerFor (i : SectionIx) (k : OrderKind) (s : State) : State :=
  match s.sect i with
  | none => s
  | some x =>
    let reg := register s.orders x.params.feederAddr k
    (s.setOrders reg.1).putSect i (some { x with wait := if reg.2.registered then none else some k })

/-- The order of the state entered is registered. -/
def registerEntry (i : SectionIx) (st : SectionState) (s : State) : State :=
  match entryOrder st with
  | some k => registerFor i k s
  | none => s

/-! ## Test units (R54 to R57, R63) -/

/-- A waiting set with a section in it, in index order. -/
def joinSet (i : SectionIx) (w : List SectionIx) : List SectionIx :=
  (List.finRange 48).filter fun j => decide (j = i) || decide (j ∈ w)

/-- A waiting set with a section out of it. -/
def leaveSet (i : SectionIx) (w : List SectionIx) : List SectionIx := w.filter fun j => decide (j ≠ i)

/-- The first member of a waiting set in cyclic index order from the rotation pointer (R55). -/
def firstWaiting (pointer : SectionIx) (w : List SectionIx) : Option SectionIx :=
  ((List.finRange 48).map fun k => pointer + k).find? fun j => decide (j ∈ w)

/-- A section enters ENERGIZING/TESTING at the grant (R42): TEST_TIMEOUT, the TEST order, the notice. -/
def enterTesting (i : SectionIx) (s : State) : State :=
  raiseSection i (registerFor i .test (s.editSect i (Sect.entered s.partTime (.energizing .testing))))

/-- A FREE unit with a waiting section is granted (R55). -/
def grantUnit (u : UnitIx) (s : State) : State :=
  match (s.unit u).holder with
  | some _ => s
  | none =>
    match firstWaiting (s.unit u).pointer (s.unit u).waiting with
    | none => s
    | some j =>
      enterTesting j (s.putUnit u { s.unit u with
        holder := some j, waiting := leaveSet j (s.unit u).waiting, pointer := j + 1 })

/-- A unit held by section `i` is freed with its last test recorded, and granted again if a section waits (R57, R63). -/
def releaseUnit (u : UnitIx) (i : SectionIx) (o : TestOutcome) (s : State) : State :=
  if (s.unit u).holder = some i then
    grantUnit u (s.putUnit u { s.unit u with holder := none, lastTest := some (i, o) })
  else s

/-- Section `i` is withdrawn from a unit's waiting set (R56). -/
def withdrawFrom (u : UnitIx) (i : SectionIx) (s : State) : State :=
  s.putUnit u { s.unit u with waiting := leaveSet i (s.unit u).waiting }

/-- What leaving a state does to the test unit: withdrawal from TEST_WAIT, release from TESTING. `x` is the section as it
was. -/
def leaveTest (i : SectionIx) (x : Sect) (o : TestOutcome) (s : State) : State :=
  match x.state with
  | .energizing .testWait => withdrawFrom x.params.testUnit i s
  | .energizing .testing => releaseUnit x.params.testUnit i o s
  | _ => s

/-! ## Changes of state -/

/-- SUPPLY_LOST is reported cleared when a section that held it leaves LIVE (R24). -/
def raiseSupplyCleared (i : SectionIx) (x : Sect) (st : SectionState) (s : State) : State :=
  if x.state = .live ∧ st ≠ .live ∧ x.prot.supplyLost = true then raise (.sectionFlag i .supplyLost false) s else s

/-- A SECTION_FLAG notice that the event sets after SECTION_STATE (R32, R51; log entry 12). -/
def raiseFlagSet (i : SectionIx) (fl : Option SectionFlag) (s : State) : State :=
  match fl with
  | some fl => raise (.sectionFlag i fl true) s
  | none => s

/-- The heads of the section's frogs are checked if its powered condition is no longer `before` (R25). -/
def checkIfPowerChanged (i : SectionIx) (before : Bool) (s : State) : State :=
  if s.powered i = before then s else checkHeadsOf i s

/-- Section `i` enters a state other than TESTING: the entry, the state's order, SECTION_STATE and the SECTION_FLAG notices
after it (R51), the frogs told of a change of power (R25), and the test unit left (R56, R57). The manual does not order
the last two (log entry 11). -/
def enterState (i : SectionIx) (st : SectionState) (fl : Option SectionFlag) (o : TestOutcome) (s : State) : State :=
  match s.sect i with
  | none => s
  | some x =>
    let s1 := raiseFlagSet i fl (raiseSupplyCleared i x st
      (raiseSection i (registerEntry i st (s.putSect i (some (x.entered s.partTime st))))))
    if Config.grantBeforeHeads then checkIfPowerChanged i (s.powered i) (leaveTest i x o s1)
    else leaveTest i x o (checkIfPowerChanged i (s.powered i) s1)

/-- Section `i` goes to LOCKED_OUT with a lock-out reason. -/
def lockOut (i : SectionIx) (r : LockReason) (fl : Option SectionFlag) (o : TestOutcome) (s : State) : State :=
  enterState i .lockedOut fl o (s.editSect i fun x => { x with lockReason := some r })

/-- A trip handed over by the protection engine (R35). -/
def trip (i : SectionIx) (r : TripReason) (s : State) : State :=
  enterState i .tripping none .abandoned
    (s.editSect i fun x => { x with tripReason := some r, isolateOnOpen := false })

/-- A local close (R32), and the settling of UNKNOWN by CLOSED (R31) with no flag: LIVE with attempt count 0. -/
def closeTo (i : SectionIx) (fl : Option SectionFlag) (s : State) : State :=
  enterState i .live fl .abandoned (s.editSect i fun x => { x with attempts := 0 })

/-! ## Attempts (R40, R45) -/

/-- H is below half of H_TRIP, by integer division (R40). -/
def Sect.cool (x : Sect) : Bool := decide (x.prot.h < x.params.hTrip / 2)

/-- Section `i` passes to TEST_WAIT and joins its unit's waiting set; the unit may be granted at once (R40, R54, R55). One
SECTION_STATE notice reports the substate reached. -/
def passToTestWait (i : SectionIx) (s : State) : State :=
  match s.sect i with
  | none => s
  | some x =>
    let u := x.params.testUnit
    let s1 := s.putSect i (some (x.entered s.partTime (.energizing .testWait)))
    let s2 := grantUnit u (s1.putUnit u { s1.unit u with waiting := joinSet i (s1.unit u).waiting })
    match s2.sect i with
    | some y => if y.state = .energizing .testWait then raiseSection i s2 else s2
    | none => s2

/-- The repeated cool-down check of a section resting in COOLING (R40). -/
def coolDownCheck (i : SectionIx) (s : State) : State :=
  match s.sect i with
  | some x => if x.state = .energizing .cooling ∧ x.cool then passToTestWait i s else s
  | none => s

/-- An attempt begins (R40): origin and attempt count set, COOLING entered and the cool-down check made at once. -/
def beginAttempt (i : SectionIx) (o : Origin) (attempts : Nat) (s : State) : State :=
  match s.sect i with
  | none => s
  | some x =>
    let y : Sect := { (x.entered s.partTime (.energizing .cooling)) with origin := some o, attempts }
    if y.cool then passToTestWait i (s.putSect i (some y)) else raiseSection i (s.putSect i (some y))

/-- An attempt fails with a cause (R45). -/
def failAttempt (i : SectionIx) (cause : LockReason) (fl : Option SectionFlag) (o : TestOutcome) (s : State) : State :=
  match s.sect i with
  | none => s
  | some x =>
    match x.origin with
    | some .auto =>
      if x.attempts < x.params.recloseMax then enterState i .deadWait fl o s else lockOut i .exhausted fl o s
    | _ => lockOut i cause fl o s

/-! ## Breaker reports (R30 to R38) -/

/-- After an OPEN report in LIVE or TRIPPING with no isolate remembered: LOCKED_OUT or DEAD_WAIT (R33, R36). -/
def openedToWait (i : SectionIx) (s : State) : State :=
  match s.sect i with
  | none => s
  | some x =>
    if x.params.recloseMax = 0 then lockOut i .exhausted none .abandoned s
    else enterState i .deadWait none .abandoned s

/-- The action of the section's state on an OPEN report. -/
def reportOpen (i : SectionIx) (x : Sect) (s : State) : State :=
  match x.state with
  | .unknown => enterState i .isolated none .abandoned s
  | .live => openedToWait i (s.editSect i fun y => { y with tripReason := some .external })
  | .tripping =>
    if x.isolateOnOpen then enterState i .isolated none .abandoned (s.editSect i fun y => { y with isolateOnOpen := false })
    else openedToWait i s
  | .isolating => enterState i .isolated none .abandoned s
  | _ => s

/-- The action of the section's state on a CLOSED report. -/
def reportClosed (i : SectionIx) (x : Sect) (s : State) : State :=
  match x.state with
  | .unknown => closeTo i none s
  | .isolated => closeTo i (some .localClose) s
  | .lockedOut => closeTo i (some .localClose) s
  | .deadWait => closeTo i (some .localClose) s
  | .energizing .closing => enterState i .live none .abandoned s
  | .energizing _ => closeTo i (some .localClose) s
  | _ => s

/-- A FAULT report (R31, R34). -/
def reportFault (i : SectionIx) (s : State) : State :=
  lockOut i .breakerFault none .abandoned (s.editSect i fun y =>
    { y with isolateOnOpen := false, tripReason := if y.state = .live then some .breakerFault else y.tripReason })

/-- A processed BREAKER report (R30): recorded first, then the action of the state. -/
def takeBreaker (i : SectionIx) (b : BreakerState) (s : State) : State :=
  match s.sect i with
  | none => s
  | some x =>
    let s1 := s.putSect i (some { x with lastReport := some b })
    match b with
    | .opened => reportOpen i x s1
    | .closed => reportClosed i x s1
    | .fault => reportFault i s1

/-! ## Dispatcher requests (R37, R39, R52, R147) -/

/-- An isolate request (R37), made from an ORDER of kind `k`. -/
def isolateRequest (i : SectionIx) (k : OrderKind) (s : State) : State :=
  match s.sect i with
  | none => s
  | some x =>
    let rest : SectionState := if x.lastReport = some .opened then .isolated else .isolating
    match x.state with
    | .unknown => raise (.orderRefused x.params.feederAddr k.code .state) s
    | .live => enterState i rest none .abandoned s
    | .deadWait => enterState i rest none .abandoned s
    | .lockedOut => enterState i rest none .abandoned s
    | .energizing .cooling => enterState i rest none .abandoned s
    | .energizing .testWait => enterState i rest none .abandoned s
    | .energizing .testing => enterState i .isolating none .abandoned s
    | .energizing .closing => enterState i .isolating none .abandoned s
    | .tripping => s.putSect i (some { x with isolateOnOpen := true })
    | .isolating => s
    | .isolated => s

/-- An energize request (R39). -/
def energizeRequest (i : SectionIx) (s : State) : State :=
  match s.sect i with
  | none => s
  | some x =>
    match x.state with
    | .unknown => raise (.orderRefused x.params.feederAddr OrderKind.close.code .state) s
    | .tripping => raise (.orderRefused x.params.feederAddr OrderKind.close.code .state) s
    | .isolating => raise (.orderRefused x.params.feederAddr OrderKind.close.code .state) s
    | .live => s
    | .energizing _ => s
    | .isolated => if x.prot.blind then lockOut i .blind none .abandoned s else beginAttempt i .dispatch 0 s
    | .lockedOut => if x.prot.blind then lockOut i .blind none .abandoned s else beginAttempt i .dispatch 0 s
    | .deadWait =>
      if x.prot.blind then lockOut i .blind none .abandoned s
      else if 0 < s.leakCount i then lockOut i .dispatchFail none .abandoned s
      else beginAttempt i .dispatch 0 s

/-- An ORDER intercepted for a configured section (R147). -/
def interceptSection (i : SectionIx) (payload : List Byte) (s : State) : State :=
  match s.sect i with
  | none => s
  | some x =>
    match parseOrder payload with
    | some .close => energizeRequest i s
    | some .opening => isolateRequest i .opening s
    | some .trip => isolateRequest i .trip s
    | _ => raise (.orderRefused x.params.feederAddr (carriedKind payload) .kind) s

/-- An ORDER intercepted for a configured frog (R148). -/
def interceptFrog (f : FrogIx) (payload : List Byte) (s : State) : State :=
  match s.frog f with
  | none => s
  | some g =>
    match parseOrder payload with
    | some .throwNormal => dispatcherThrow f .normal s
    | some .throwReverse => dispatcherThrow f .reverse s
    | _ => raise (.orderRefused g.params.ctrlAddr (carriedKind payload) .kind) s

/-! ## Results, endings and timers -/

/-- A processed TEST_RESULT (R59 to R62). -/
def takeResult (i : SectionIx) (r : BitVec 16) (s : State) : State :=
  match s.sect i with
  | none => s
  | some x =>
    if x.state = .energizing .testing then
      if x.params.rMin ≤ r.toNat then enterState i (.energizing .closing) none (.pass r) s
      else failAttempt i .testFail none (.fail r) s
    else s

/-- The section is told of the ending of one of its orders (R50). -/
def sectionEnding (i : SectionIx) (k : OrderKind) (accepted : Bool) (s : State) : State :=
  match s.sect i with
  | none => s
  | some x =>
    if accepted then s
    else if k = .test ∧ x.state = .energizing .testing then failAttempt i .testFail none .orderFail s
    else if k = .close ∧ x.state = .energizing .closing then failAttempt i .closeFail none .abandoned s
    else s

/-- OPEN_TIMEOUT expires in TRIPPING or ISOLATING (R36, R38). -/
def openExpiry (i : SectionIx) (s : State) : State :=
  match s.sect i with
  | none => s
  | some x =>
    if x.timer.expired s.partTime && (decide (x.state = .tripping) || decide (x.state = .isolating)) then
      lockOut i .breakerFail none .abandoned (s.editSect i fun y => { y with isolateOnOpen := false })
    else s

/-- CLOSE_TIMEOUT expires in CLOSING (R43). -/
def closeExpiry (i : SectionIx) (s : State) : State :=
  match s.sect i with
  | none => s
  | some x =>
    if x.timer.expired s.partTime && decide (x.state = .energizing .closing) then
      failAttempt i .closeFail none .abandoned s
    else s

/-- TEST_TIMEOUT expires in TESTING (R61). -/
def testExpiry (i : SectionIx) (s : State) : State :=
  match s.sect i with
  | none => s
  | some x =>
    if x.timer.expired s.partTime && decide (x.state = .energizing .testing) then
      failAttempt i .testFail none .timeout s
    else s

/-- RECLOSE_DEAD expires in DEAD_WAIT (R47). -/
def deadWaitExpires (i : SectionIx) (s : State) : State :=
  match s.sect i with
  | none => s
  | some x =>
    if x.timer.expired s.partTime && decide (x.state = .deadWait) then
      if x.prot.blind then lockOut i .blind none .abandoned s
      else if 0 < s.leakCount i then lockOut i .leak none .abandoned s
      else if x.params.recloseMax ≤ x.attempts then lockOut i .exhausted none .abandoned s
      else beginAttempt i .auto (x.attempts + 1) s
    else s

/-- The reclaim timer expires in LIVE (R48). -/
def reclaimExpires (i : SectionIx) (s : State) : State :=
  match s.sect i with
  | none => s
  | some x =>
    if x.timer.expired s.partTime && decide (x.state = .live) then
      s.putSect i (some { x with attempts := 0, timer := .stopped })
    else s

/-- A whole-second period of RECLAIM_TIME ends before the last (R27). -/
def reclaimPeriod (i : SectionIx) (s : State) : State :=
  match s.sect i with
  | none => s
  | some x =>
    if x.timer.periodEnded s.partTime && decide (x.state = .live) then
      s.putSect i (some { x with timer := x.timer.nextPeriod })
    else s

/-- The silence timer expires (R21): BLIND set, the sequence unsynchronised, the window and the low run ended, and an attempt
in progress fails (R44). -/
def silenceExpires (i : SectionIx) (s : State) : State :=
  match s.sect i with
  | none => s
  | some x =>
    if x.prot.silence.expired s.partTime then
      let fl : Option SectionFlag := if x.prot.blind then none else some .blind
      let s1 := s.putSect i (some { x with prot := { x.prot with
        blind := true, synced := false, window := none, lowRun := none, silence := .stopped } })
      match x.state with
      | .energizing _ => failAttempt i .blind fl .abandoned s1
      | _ => raiseFlagSet i fl s1
    else s

end Sys2Proof.Machine
end

