-- ==== Sys2Proof/Machine/OrderList.lean ====
section
/-!
DEFINITION. The field order list after registration (spec/07): owners, the service of registration waits, ACKs, endings and
the marking of a sent entry. Registration itself is in Machine/Ops.lean.
-/

namespace Sys2Proof.Machine

/-- The owner of an entry (R127). -/
inductive Owner
  | nobody
  | ofSection (i : SectionIx)
  | ofFrog (f : FrogIx)
  deriving DecidableEq, Repr

/-- The owner of the entries with a target, looked up now (R127). -/
def State.ownerOf (s : State) (a : LineAddr) : Owner :=
  match s.sectAt a with
  | some i => .ofSection i
  | none => match s.frogAt a with
    | some f => .ofFrog f
    | none => .nobody

/-- Section `i`, waiting with an order of the class, registers again (R134); the answer says whether service stops because
the registration was refused for room. -/
def serveSection (urgentClass : Bool) (i : SectionIx) (s : State) : State × Bool :=
  match s.sect i with
  | none => (s, false)
  | some x =>
    match x.wait with
    | none => (s, false)
    | some k =>
      if k.urgent = urgentClass then
        (registerFor i k s, decide ((register s.orders x.params.feederAddr k).2 = .noRoom))
      else (s, false)

/-- Frog `f`, waiting, makes its head check (R95, R134); service stops if its registration was refused for room, that is, if
its wait still stands and no live entry to its CTRL_ADDR stands in the way. -/
def serveFrog (f : FrogIx) (s : State) : State × Bool :=
  match s.frog f with
  | none => (s, false)
  | some g =>
    if g.wait.isSome then
      let t := noteFrog f (checkHead f s)
      match t.frog f with
      | some h => (t, h.wait.isSome && !t.orderTo h.params.ctrlAddr)
      | none => (t, false)
    else (s, false)

/-- A registration waiter's turn in the service. -/
inductive Turn
  | urgent (i : SectionIx)
  | normal (i : SectionIx)
  | frog (f : FrogIx)
  deriving DecidableEq, Repr

/-- The order of service (R134): class 1 and class 2 by section index, class 3 by frog index. -/
def serviceOrder : List Turn :=
  (List.finRange 48).map .urgent ++ (List.finRange 48).map .normal ++ (List.finRange 64).map .frog

/-- One waiter's turn. -/
def serveTurn (t : Turn) (s : State) : State × Bool :=
  match t with
  | .urgent i => serveSection true i s
  | .normal i => serveSection false i s
  | .frog f => serveFrog f s

/-- Service over a list of turns, stopping at the first registration refused for room (R134). -/
def serveTurns : List Turn → State → State
  | [], s => s
  | t :: rest, s => if (serveTurn t s).2 then (serveTurn t s).1 else serveTurns rest (serveTurn t s).1

/-- The registration waits are served (R134). -/
def serveWaits (s : State) : State := serveTurns serviceOrder s

/-- The owner is told of an ending (R140 step 2). -/
def tellOwner (o : Owner) (k : OrderKind) (accepted : Bool) (s : State) : State :=
  match o with
  | .ofSection i => sectionEnding i k accepted s
  | .ofFrog f => frogEnding f k accepted s
  | .nobody => s

/-- An entry ends (R140): it is freed, its owner is told, the waits are served. -/
def endOrder (e : Order) (accepted : Bool) (s : State) : State :=
  let s1 := s.setOrders (s.orders.filter fun x => decide (x.target ≠ e.target))
  serveWaits (tellOwner (s1.ownerOf e.target) e.kind accepted s1)

/-- The SENT entry with a target. -/
def State.sentTo (s : State) (a : LineAddr) : Option Order :=
  s.orders.find? fun e => decide (e.target = a) && decide (e.state ≠ .queued)

/-- A processed ACK (R137, R138): matched on its SEQ against the SENT entry whose target is its source. -/
def takeAck (src : LineAddr) (seq : Byte) (accepted : Bool) (s : State) : State :=
  match s.sentTo src with
  | none => s
  | some e =>
    match e.state with
    | .sent q _ => if q = seq then endOrder e accepted s else s
    | .queued => s

/-- The ACK timer of the SENT entry with this target expires (R139). -/
def ackExpiry (a : LineAddr) (s : State) : State :=
  match s.sentTo a with
  | none => s
  | some e =>
    match e.state with
    | .sent _ t => if t.expired s.partTime then endOrder e false s else s
    | .queued => s

/-- The oldest QUEUED entry of an urgency (R135). -/
def State.candidateOrder (s : State) (urgent : Bool) : Option Order :=
  s.orders.find? fun e => decide (e.state = .queued) && decide (e.kind.urgent = urgent)

/-- The entry with a target becomes SENT with a SEQ and its ACK timer started (R136). -/
def markSent (a : LineAddr) (seq : Byte) (s : State) : State :=
  s.setOrders (s.orders.map fun e =>
    if e.target = a then { e with state := .sent seq (Timer.start s.partTime s.globals.ackTimeout) } else e)

end Sys2Proof.Machine
end

