-- ==== Sys2Proof/Machine/Feeder.lean ====
section
/-!
DEFINITION. The protection engine (spec/01): the thermal step, the ΔI window, the checks of a sample, fills and resyncs, the
supply-loss evaluation and the work of an accepted frame.
-/

namespace Sys2Proof.Machine

/-- The thermal step of a current (R14): trunc((I² − IC²) / 1000). -/
def thermalStep (ic : Nat) (i : Int) : Int := Int.tdiv (i * i - (ic : Int) * ic) 1000

/-- H after a thermal step, held within its range (R15). -/
def nextH (h ic : Nat) (i : Int) : Nat := (min (max ((h : Int) + thermalStep ic i) 0) Config.hMax).toNat

/-- The threshold frozen at an opening of the window (R11). -/
def frozenThreshold (p : SectionParams) (vehicles : Nat) : Int :=
  min ((p.deltaBase : Int) + (min vehicles p.vehCap : Nat) * (p.vehAllow : Int)) 8000

/-- What the ΔI check makes of a sample with the window closed (R11): the window after it, and whether it trips. -/
def openWindow (p : SectionParams) (vehicles : Nat) (iPrev i : Int) : Option Window × Bool :=
  if i - iPrev < p.didtStart then (none, false)
  else
    let t := frozenThreshold p vehicles
    (some { base := iPrev, count := 1, threshold := t }, decide (t ≤ i - iPrev))

/-- What the ΔI check makes of a sample with the window open (R12). -/
def judgeWindow (p : SectionParams) (w : Window) (iPrev i : Int) : Option Window × Bool :=
  if i - iPrev ≤ 0 then (none, false)
  else if p.windowMax ≤ w.count then (none, false)
  else (some { w with count := w.count + 1 }, decide (w.threshold ≤ i - w.base))

/-- The ΔI check (R11, R12). -/
def deltaCheck (p : SectionParams) (vehicles : Nat) (w : Option Window) (iPrev i : Int) : Option Window × Bool :=
  match w with
  | none => openWindow p vehicles iPrev i
  | some w => judgeWindow p w iPrev i

/-- The checks of one sample on a section (R9 step 3, R10 to R17): the section with its window, its H and its I_prev after
the sample, and the reason of a trip, the first met in the order INST, DELTA, THERMAL. `i` is the clamped current. The
trip is taken with H as it stands after the sample's thermal step (R26, R35). -/
def judgeSample (vehicles : Nat) (x : Sect) (i : Int) : Sect × Option TripReason :=
  let p := x.params
  let checked := decide (x.state = .live) && !x.prot.blind
  let inst := checked && decide ((p.iInst : Int) ≤ |i|)
  let d := if checked && !inst then deltaCheck p vehicles x.prot.window x.prot.iPrev i else (x.prot.window, false)
  let h := nextH x.prot.h p.ic i
  let thermal := decide (x.state = .live) && decide (p.hTrip ≤ h)
  ({ x with prot := { x.prot with window := d.1, h := h, iPrev := i } },
    if inst then some .inst else if d.2 then some .delta else if thermal then some .thermal else none)

/-- A trip, if a reason was met. -/
def tripIf (i : SectionIx) (r : Option TripReason) (s : State) : State :=
  match r with
  | some r => trip i r s
  | none => s

/-- One sample of an accepted frame is taken (R9 step 3). -/
def takeSample (i : SectionIx) (s : State) (x : Sample) : State :=
  match s.sect i with
  | none => s
  | some y =>
    let j := judgeSample (s.vehicleCount i) y x.clamped.current
    tripIf i j.2 (s.putSect i (some j.1))

/-- One fill step (R7): a thermal step at I_last, with the THERMAL check in LIVE. -/
def fillStep (i : SectionIx) (s : State) : State :=
  match s.sect i with
  | none => s
  | some x =>
    let h := nextH x.prot.h x.params.ic x.prot.iLast
    tripIf i (if x.state = .live ∧ x.params.hTrip ≤ h then some .thermal else none)
      (s.putSect i (some { x with prot := { x.prot with h := h } }))

/-- So many fill steps. -/
def fillSteps (i : SectionIx) : Nat → State → State
  | 0, s => s
  | n + 1, s => fillSteps i n (fillStep i s)

/-- The section's protection record changed by `g`. -/
def State.editProt (s : State) (i : SectionIx) (g : Protection → Protection) : State :=
  s.editSect i fun x => { x with prot := g x.prot }

/-- The fill of a gap of `g` frames (R7): 8·g steps, then the window closed and I_prev set to I_last. -/
def fillGap (i : SectionIx) (g : Nat) (s : State) : State :=
  (fillSteps i (8 * g) s).editProt i fun p => { p with window := none, iPrev := p.iLast }

/-- A resync (R8): the window closed, I_prev set to the frame's first sample, the sequence synchronised. -/
def resync (i : SectionIx) (first : Int) (s : State) : State :=
  s.editProt i fun p => { p with window := none, iPrev := first, synced := true }

/-- Classes of a processed frame (R6). -/
inductive GapClass
  | normal
  | missing (g : Nat)
  | resync
  | stale
  deriving DecidableEq, Repr

/-- The class of a frame by its SEQ (R6). -/
def gapClass (p : Protection) (seq : Byte) : GapClass :=
  if !p.synced then .resync
  else
    let g := (seq - p.expectedSeq).toNat
    if g = 0 then .normal
    else if g ≤ 3 then .missing g
    else if g ≤ 127 then .resync
    else .stale

/-- The supply-loss evaluation of an accepted frame (R23), with the clamped voltages of its samples. -/
def evaluateSupply (i : SectionIx) (volts : List Nat) (s : State) : State :=
  match s.sect i with
  | none => s
  | some x =>
    if x.state = .live then
      if volts.all fun v => decide (v < x.params.vDead) then
        let start := x.prot.lowRun.getD s.partTime
        let s1 := s.putSect i (some { x with prot := { x.prot with lowRun := some start } })
        if x.params.supplyLossTime ≤ (s.partTime - start).toNat ∧ x.prot.supplyLost = false then
          checkIfPowerChanged i (s.powered i)
            (raise (.sectionFlag i .supplyLost true) (s1.editProt i fun p => { p with supplyLost := true }))
        else s1
      else if volts.all fun v => decide (x.params.vDead ≤ v) then
        let s1 := s.putSect i (some { x with prot := { x.prot with lowRun := none, supplyLost := false } })
        if x.prot.supplyLost then
          checkIfPowerChanged i (s.powered i) (raise (.sectionFlag i .supplyLost false) s1)
        else s1
      else s
    else s

/-- BLIND is cleared by an accepted frame (R22). -/
def clearBlind (i : SectionIx) (s : State) : State :=
  match s.sect i with
  | some x =>
    if x.prot.blind then raise (.sectionFlag i .blind false) (s.editProt i fun p => { p with blind := false }) else s
  | none => s

/-- The gap action (R9 step 2). -/
def gapAction (i : SectionIx) (c : GapClass) (first : Int) (s : State) : State :=
  match c with
  | .missing g => fillGap i g s
  | .resync => resync i first s
  | _ => s

/-- The work of an accepted frame of the class given (R9). -/
def acceptFrame (i : SectionIx) (c : GapClass) (seq : Byte) (samples : List Sample) (s : State) : State :=
  let first := ((samples.headD { current := 0, voltage := 0 }).clamped).current
  let eighth := ((samples.getLastD { current := 0, voltage := 0 }).clamped).current
  let s3 := samples.foldl (takeSample i) (gapAction i c first (clearBlind i s))
  let s5 := s3.editSect i fun x => { x with prot := { x.prot with
    expectedSeq := seq + 1, iLast := eighth, silence := Timer.start s.partTime x.params.silenceTime } }
  coolDownCheck i (evaluateSupply i (samples.map fun x => x.clamped.voltage) s5)

/-- A processed SAMPLE frame (R4, R6): ignored when stale, else accepted. -/
def takeSamples (i : SectionIx) (seq : Byte) (payload : List Byte) (s : State) : State :=
  match s.sect i with
  | none => s
  | some x =>
    match gapClass x.prot seq with
    | .stale => s
    | c => acceptFrame i c seq (parseSamples payload) s

end Sys2Proof.Machine
end

