-- ==== Sys2Proof/Machine/Skates.lean ====
section
/-!
DEFINITION. The skate capture unit (spec/04): the capture record, the edges of a SKATE frame, the capture timers, the
conclusion of a contact with its judgements and hand-overs, and the exits handed to the frog controller (R101, R102).
-/

namespace Sys2Proof.Machine

/-- Frog `f`'s capture record changed by `g`. -/
def State.editCapture (s : State) (f : FrogIx) (g : Capture → Capture) : State :=
  s.editFrog f fun x => { x with capture := g x.capture }

/-- An interval added to the draw total, held at 65,535 (section 4.2). -/
def addDraw (d : Nat) (interval : Tick) : Nat := min (d + interval.toNat) 65535

/-- The other route. -/
def Route.other : Route → Route
  | .normal => .reverse
  | .reverse => .normal

/-- The contact's width (R78). -/
def Capture.width (c : Capture) : Tick := c.fallTick - c.riseTick

/-- The judgement of a contact in its fixed order (R78 to R80). -/
def Capture.judgement (c : Capture) (p : FrogParams) : Judgement :=
  if c.stall || decide (p.wMax < c.width.toNat) then .stall
  else if c.width.toNat < p.wMin then .noise
  else .passage (decide (p.bounceMax < c.bounces))
    (if c.width.toNat ≤ 2 * c.drawTotal then p.drawSense else p.drawSense.other)

/-- The last conclusion record of a contact (R81). Whether NOISE and STALL keep the dropped tag is free (log entry 17). -/
def Capture.conclusion (c : Capture) (p : FrogParams) : Conclusion :=
  { judgement := c.judgement p
    width := c.width
    drawTotal := c.drawTotal
    bounces := c.bounces
    tag := match c.judgement p with
      | .passage _ _ => c.tag
      | _ => if Config.droppedTagKept then c.tag else none }

/-- The record returned to IDLE with the last conclusion replaced (R81). -/
def Capture.concluded (c : Capture) (p : FrogParams) : Capture :=
  { c with phase := .idle, settle := .stopped, hold := .stopped, drawStart := .none, drawTotal := 0, bounces := 0
           tag := none, stall := false, last := some (c.conclusion p) }

/-- BOUNCE handed to the vehicle table for a bouncing passage with a tag (R81 step 1). -/
def handBounce (f : FrogIx) (j : Judgement) (tag : Option VehicleNumber) (s : State) : State :=
  match j, tag with
  | .passage true _, some n => bounceVehicle n f s
  | _, _ => s

/-- The passage or the stall handed to the frog controller (R81 steps 2 and 3). -/
def handToFrog (f : FrogIx) (j : Judgement) (tag : Option VehicleNumber) (width : Tick) (s : State) : State :=
  match j with
  | .passage _ route => noteFrog f (takePassage f route tag width s)
  | .stall => noteFrog f (addBlock f .stall s)
  | .noise => s

/-- A contact is concluded (R78 to R81). -/
def conclude (f : FrogIx) (s : State) : State :=
  match s.frog f with
  | none => s
  | some g =>
    let c := g.capture
    let j := c.judgement g.params
    (handToFrog f j c.tag c.width (handBounce f j c.tag s)).editCapture f fun c' => c'.concluded g.params

/-- An ENTRY_SHOE_RISE in IDLE opens a contact (R69). -/
def openContact (f : FrogIx) (t : Tick) (s : State) : State :=
  s.editFrog f fun g => { g with capture := { g.capture with
    phase := .contact, riseTick := t, drawTotal := 0, bounces := 0, stall := false, tag := none
    drawStart := if g.capture.drawHigh then .at t else .none
    hold := Timer.start s.partTime g.params.skateHold } }

/-- A merged rise (R70). -/
def Capture.merged (t : Tick) (c : Capture) : Capture :=
  { c with phase := .contact, bounces := min (c.bounces + 1) 255, settle := .stopped
           drawStart := if c.drawStart = .pending then .at t else c.drawStart }

/-- An ENTRY_SHOE_RISE (R69, R70). -/
def entryRise (f : FrogIx) (t : Tick) (s : State) : State :=
  match s.frog f with
  | none => s
  | some g =>
    match g.capture.phase with
    | .idle => openContact f t s
    | .contact => s
    | .settling =>
      if (t - g.capture.fallTick).toNat ≤ g.params.bounceGap then s.editCapture f (Capture.merged t)
      else openContact f t (conclude f s)

/-- A shoe fall taken in CONTACT (R71). -/
def Capture.fallen (now : Time) (settle : Nat) (t : Tick) (c : Capture) : Capture :=
  match c.drawStart with
  | .at d => { c with fallTick := t, phase := .settling, settle := Timer.start now settle
                      drawTotal := addDraw c.drawTotal (t - d), drawStart := .pending }
  | _ => { c with fallTick := t, phase := .settling, settle := Timer.start now settle }

/-- An ENTRY_SHOE_FALL (R71). -/
def entryFall (f : FrogIx) (t : Tick) (s : State) : State :=
  s.editCapture f fun c => if c.phase = .contact then c.fallen s.partTime s.globals.settle t else c

/-- A DRAW_RISE on a record (R72). -/
def Capture.drawRise (t : Tick) (c : Capture) : Capture :=
  if c.drawHigh then c
  else match c.phase with
    | .contact => { c with drawHigh := true, drawStart := .at t }
    | .settling => { c with drawHigh := true, drawStart := .pending }
    | .idle => { c with drawHigh := true }

/-- A DRAW_FALL on a record (R73). -/
def Capture.drawFall (t : Tick) (c : Capture) : Capture :=
  if c.drawHigh then
    match c.phase, c.drawStart with
    | .contact, .at d => { c with drawHigh := false, drawTotal := addDraw c.drawTotal (t - d), drawStart := .none }
    | .contact, _ => { c with drawHigh := false, drawStart := .none }
    | .settling, _ => { c with drawHigh := false, drawStart := .none }
    | .idle, _ => { c with drawHigh := false }
  else c

/-- A TAG on a record (R74). -/
def Capture.tagged (n : VehicleNumber) (c : Capture) : Capture :=
  match c.phase with
  | .idle => c
  | _ => { c with tag := some n }

/-- The leg section of a route (R101). -/
def FrogParams.leg (p : FrogParams) : Route → SectionIx
  | .normal => p.normalLeg
  | .reverse => p.reverseLeg

/-- The RETURN decision at an exit that empties the queue (R101 step 3). -/
def joinReturn (f : FrogIx) (s : State) : FrogWork :=
  match s.frog f with
  | none => (s, false)
  | some g =>
    if g.queue = [] ∧ g.params.returns = true ∧ g.position ≠ .at g.params.dflt then
      (s.putFrog f (some { g with queue := [{ kind := .returning, target := g.params.dflt, phase := .waiting }] }), true)
    else (s, false)

/-- The tagged vehicle of a completed passage handed to the vehicle table (R101 step 2). -/
def handPlacement (tag : Option VehicleNumber) (i : SectionIx) (s : State) : State :=
  match tag with
  | some n => placeVehicle n i s
  | none => s

/-- An exit handed to the frog controller (R75, R101, R102). -/
def exitWork (f : FrogIx) (s : State) : FrogWork :=
  match s.frog f with
  | none => (s, false)
  | some g =>
    match g.queue with
    | { kind := .passage tag _, target, phase := .set } :: rest =>
      FrogWork.followedBy (FrogWork.followedBy (FrogWork.followedBy
        (handPlacement tag (g.params.leg target) (s.putFrog f (some { g with queue := rest, exitTimer := .stopped })), true)
        (clearOverflowIfEmpty f)) (joinReturn f)) (checkHead f)
    | _ => addBlock f .exit s

/-- One event of a SKATE frame (R68 to R75). -/
def skateEvent (f : FrogIx) (s : State) (e : SkateEvent) : State :=
  match e.edge with
  | .entryRise => entryRise f e.tick s
  | .entryFall => entryFall f e.tick s
  | .drawRise => s.editCapture f (Capture.drawRise e.tick)
  | .drawFall => s.editCapture f (Capture.drawFall e.tick)
  | .exitRise => s
  | .exitFall => noteFrog f (exitWork f s)
  | .tag => s.editCapture f (Capture.tagged e.number)

/-- The events of a processed SKATE frame, in their order (R68). -/
def takeSkate (f : FrogIx) (events : List SkateEvent) (s : State) : State := events.foldl (skateEvent f) s

/-- The SETTLE timer expires (R76). -/
def settleExpires (f : FrogIx) (s : State) : State :=
  match s.frog f with
  | none => s
  | some g =>
    if g.capture.settle.expired s.partTime && decide (g.capture.phase = .settling) then conclude f s else s

/-- SKATE_HOLD expires during a contact (R77): the stall flag set, STALL added. -/
def holdExpires (f : FrogIx) (s : State) : State :=
  match s.frog f with
  | none => s
  | some g =>
    if g.capture.hold.expired s.partTime && decide (g.capture.phase ≠ .idle) then
      noteFrog f (addBlock f .stall (s.editCapture f fun c => { c with stall := true, hold := .stopped }))
    else s

end Sys2Proof.Machine
end

