-- ==== Sys2Proof/Machine/Control.lean ====
section
/-!
DEFINITION. Start-up and reset control (spec/11): what a reset clears and stops, the start-up hold, the starting values of
R177, the change of mode, and the passing of a millisecond.
-/

namespace Sys2Proof.Machine

/-- The part runs: it is in no reset and no start-up hold, and the bypass relay is open (R174). -/
def State.isRunning (s : State) : Bool := decide (s.activity = .running)

/-- A port unit at the values of R154 and R151 with an empty forward queue (R150); its flags and line are kept. -/
def Port.starting (fixedOrder : List Candidate) (p : Port) : Port :=
  { p with seq := 0, rotation := fixedOrder, forward := [] }

/-- Every block's dynamic state at its starting values for a mode and a part time (R177). -/
def startingState (mode : Mode) (now : Time) (s : State) : State :=
  { s with
    mode := mode
    partTime := now
    sections := mapTable (Option.map fun x => Sect.starting mode now x.params) s.sections
    units := Vector.replicate 12 TestUnit.starting
    frogs := mapTable (Option.map fun g => Frog.starting g.params) s.frogs
    vehicles := []
    orders := []
    uplink := s.uplink.starting uplinkFixedOrder
    field := s.field.starting fieldFixedOrder
    notices := []
    replies := [] }

/-- A change of operating mode (R165, R177): part time is kept. -/
def changeMode (mode : Mode) (s : State) : State := startingState mode s.partTime s

/-- A section with its timers stopped (R174). -/
def Sect.halted (x : Sect) : Sect := { x with timer := .stopped, prot := { x.prot with silence := .stopped } }

/-- A frog with its timers stopped (R174). -/
def Frog.halted (g : Frog) : Frog :=
  { g with throwTimer := .stopped, exitTimer := .stopped
           capture := { g.capture with settle := .stopped, hold := .stopped } }

/-- An order entry with its ACK timer stopped (R174). -/
def Order.halted (e : Order) : Order :=
  match e.state with
  | .sent q _ => { e with state := .sent q .stopped }
  | .queued => e

/-- Every timer of every block is stopped (R174). -/
def stopTimers (s : State) : State :=
  { s with
    sections := mapTable (Option.map Sect.halted) s.sections
    frogs := mapTable (Option.map Frog.halted) s.frogs
    vehicles := s.vehicles.map fun v => { v with ageTimer := .stopped }
    orders := s.orders.map Order.halted }

/-- Configuration cleared (R176). -/
def clearConfig (s : State) : State :=
  { s with
    sections := Vector.replicate 48 none
    frogs := Vector.replicate 64 none
    filter := Vector.replicate 32 FilterRule.powerOn
    globals := Globals.powerOn }

/-- A reset of this kind clears configuration (R174). -/
def ResetCause.clearsConfig : ResetCause → Bool
  | .powerOn => true
  | .supplyDip => true
  | _ => false

/-- A reset begins (R174): the port flags and NOTICE_LOST cleared, every timer stopped, the relay closed, the cause that of
the latest reset, and configuration cleared by the kinds that clear it. `configKept` stays false through a chain of
resets of which one cleared it (log entry 8). -/
def beginReset (c : ResetCause) (s : State) : State :=
  let s1 := stopTimers s
  let s2 := { s1 with
    uplink := { s1.uplink with checkErr := false, forwardDrop := false }
    field := { s1.field with checkErr := false, forwardDrop := false }
    noticeLost := false
    activity := .resetting
    cause := c
    configKept := !c.clearsConfig && (s.isRunning || s.configKept) }
  if c.clearsConfig then clearConfig s2 else s2

/-- Length of the start-up hold in ms (R174). -/
def ResetCause.holdLength : ResetCause → Nat
  | .powerOn => 100
  | .supplyDip => 100
  | .resetPin => 5
  | .restart => 5

/-- The start-up hold of the reset's kind begins (R174). -/
def beginHold (s : State) : State := s.setActivity (.holding s.cause.holdLength)

/-- The reset cause has ended: supplies in range, RESET_N high; the hold begins (R174). -/
def endReset (s : State) : State :=
  match s.activity with
  | .resetting => { beginHold s with resetN := true, supplyOk := true }
  | _ => s

/-- The mode at the end of a start-up hold (R175 step 4). -/
def startMode (autorun configKept : Bool) : Mode := if autorun && configKept then .supervise else .bypass

/-- The start-up hold ends (R175). -/
def endHold (straps : Byte) (autorun : Bool) (s : State) : State :=
  match s.activity with
  | .holding 0 =>
    let mode := startMode autorun s.configKept
    let s1 := startingState mode 0 { s with
      activity := .running, straps, autorun, ownAddr := 0x7F00 + straps.zeroExtend 16 }
    raise (.start s1.cause mode) s1
  | _ => s

/-- The age of a vehicle entry one millisecond on, held at 2³² − 1 (R110). -/
def Vehicle.older (v : Vehicle) : Vehicle := { v with age := min (v.age + 1) 4294967295 }

/-- One millisecond passes (section 4.2; log entry 2): part time and the ages of the vehicle entries advance while the part
runs, and the start-up hold runs down while it is held. -/
def tick (s : State) : State :=
  match s.activity with
  | .running => (s.setPartTime (s.partTime + 1)).setVehicles (s.vehicles.map Vehicle.older)
  | .resetting => s
  | .holding n => s.setActivity (.holding (n - 1))

end Sys2Proof.Machine
end

