-- ==== Sys2Proof/Machine/Management.lean ====
section
/-!
DEFINITION. The management unit (spec/10): admission and judgement of a request, each request with its checks in the order of
R162, and the layouts of the replies' data.
-/

namespace Sys2Proof.Machine

/-- What becomes of an executed request: a reply with a result and data over the state after it, or no reply. -/
inductive Verdict
  | answer (s : State) (r : ResultCode) (data : List Byte)
  | silent (s : State)

/-- A refused request changes nothing and its reply carries no data (R162). -/
def refuse (r : ResultCode) (s : State) : Verdict := .answer s r []

/-- An executed request answered OK with no data. -/
def done (s : State) : Verdict := .answer s .ok []

/-! ## Status, mode, restart, globals (R164 to R166) -/

/-- The number of configured sections. -/
def State.sectionsConfigured (s : State) : Nat := ((List.finRange 48).filter fun i => (s.sect i).isSome).length

/-- The number of configured frogs. -/
def State.frogsConfigured (s : State) : Nat := ((List.finRange 64).filter fun f => (s.frog f).isSome).length

/-- The status block (R164). -/
def statusData (s : State) : List Byte :=
  [s.mode.code, s.cause.code, statusFlags s, u8 s.sectionsConfigured, u8 s.frogsConfigured, u8 s.vehicles.length
  , u8 s.orders.length, u8 s.notices.length] ++ beWord s.ownAddr ++ be32 s.partTime.toNat ++ s.globals.bytes

/-- The four port flags and NOTICE_LOST cleared (R155, R159). -/
def clearFlags (s : State) : State :=
  ((s.setUplink { s.uplink with checkErr := false, forwardDrop := false }).setField
    { s.field with checkErr := false, forwardDrop := false }).setNoticeLost false

/-- STATUS (R164). -/
def requestStatus (a : List Byte) (s : State) : Verdict :=
  if a.length ≠ 0 then refuse .range s else .answer (clearFlags s) .ok (statusData s)

/-- SET_MODE (R165). -/
def requestSetMode (a : List Byte) (s : State) : Verdict :=
  if a.length ≠ 1 then refuse .range s
  else match twoCode Mode.bypass Mode.supervise (argU8 a 0) with
    | none => refuse .range s
    | some m => if m = s.mode then done s else done (changeMode m s)

/-- RESTART (R165, R174): a RESTART reset lasts the execution of the request, so its hold begins at once; no reply is
formed. -/
def requestRestart (a : List Byte) (s : State) : Verdict :=
  if a.length ≠ 0 then refuse .range s else .silent (beginHold (beginReset .restart s))

/-- What a change of VEH_AGE does to the age timers (R123). -/
def applyVehAge (old new : Nat) (s : State) : State :=
  if new = 0 then s.setVehicles (s.vehicles.map fun v => { v with ageTimer := .stopped })
  else if old = 0 then
    s.setVehicles (s.vehicles.map (Vehicle.ageRestarted new s.partTime))
  else s

/-- The globals written together (R166): an arbiter whose mode changes returns to its fixed order. -/
def writeGlobals (g : Globals) (s : State) : State :=
  let s1 := applyVehAge s.globals.vehAge g.vehAge s
  let s2 := if g.arbField = s.globals.arbField then s1
    else s1.setField { s1.field with rotation := fieldFixedOrder }
  let s3 := if g.arbUplink = s.globals.arbUplink then s2
    else s2.setUplink { s2.uplink with rotation := uplinkFixedOrder }
  s3.setGlobals g

/-- SET_GLOBALS (R166). -/
def requestSetGlobals (a : List Byte) (s : State) : Verdict :=
  if a.length ≠ 9 then refuse .range s
  else match parseGlobals a with
    | none => refuse .range s
    | some g => done (writeGlobals g s)

/-! ## Loads and unloads (R167 to R170) -/

/-- FEEDER_ADDR clashes with the own address, another section or a frog (R167). -/
def feederClashes (i : SectionIx) (a : LineAddr) (s : State) : Bool :=
  decide (a = s.ownAddr) || ((List.finRange 48).any fun j => decide (j ≠ i) && (match s.sect j with
      | some x => decide (x.params.feederAddr = a)
      | none => false))
    || (s.frogAt a).isSome

/-- The resting states in which a section may be fully reloaded or unloaded (R167, R168). -/
def SectionState.resting : SectionState → Bool
  | .unknown => true
  | .isolated => true
  | .lockedOut => true
  | _ => false

/-- A configured section with its parameters replaced (R3, R29). -/
def Sect.reloaded (p : SectionParams) (x : Sect) : Sect :=
  let y := { x with params := p, attempts := min x.attempts p.recloseMax }
  if p.feederAddr = x.params.feederAddr then y
  else { y with lastReport := none, prot := { x.prot with synced := false, window := none } }

/-- LOAD_SECTION (R167). -/
def requestLoadSection (a : List Byte) (s : State) : Verdict :=
  if a.length ≠ 39 then refuse .range s
  else match parseLoadSection a with
    | none => refuse .range s
    | some (i, p) =>
      if feederClashes i p.feederAddr s then refuse .range s
      else match s.sect i with
        | none => done (raiseSection i (s.putSect i (some (Sect.starting s.mode s.partTime p))))
        | some x =>
          if x.state.resting || (decide (p.feederAddr = x.params.feederAddr) && decide (p.testUnit = x.params.testUnit)) then
            done (s.putSect i (some (x.reloaded p)))
          else refuse .state s

/-- A frog names the section as POWER_SECTION, NORMAL_LEG or REVERSE_LEG (R83). -/
def FrogParams.names (p : FrogParams) (i : SectionIx) : Bool :=
  decide (p.powerSection = i) || decide (p.normalLeg = i) || decide (p.reverseLeg = i)

/-- A configured frog names the section (R168). -/
def namedByFrog (i : SectionIx) (s : State) : Bool :=
  (List.finRange 64).any fun f => match s.frog f with
    | some g => g.params.names i
    | none => false

/-- A section is unloaded (R2, R29, R122). The last four fields of its notice are free values (log entry 16). -/
def unloadSect (i : SectionIx) (s : State) : State :=
  let s1 := forgetSection i (s.putSect i none)
  (raise (.sectionUnloaded i (freeByteAt s 0) (freeByteAt s 1) (freeByteAt s 2)
      [freeByteAt s 3, freeByteAt s 4, freeByteAt s 5, freeByteAt s 6]) s1).setFreeCount (s.freeCount + 7)

/-- UNLOAD_SECTION (R168). -/
def requestUnloadSection (a : List Byte) (s : State) : Verdict :=
  if a.length ≠ 1 then refuse .range s
  else match indexOf 48 (argU8 a 0) with
    | none => refuse .range s
    | some i => match s.sect i with
      | none => done s
      | some x => if x.state.resting && !namedByFrog i s then done (unloadSect i s) else refuse .state s

/-- The references of a LOAD_FROG are valid (R169). -/
def frogReferencesOk (f : FrogIx) (p : FrogParams) (s : State) : Bool :=
  (s.sect p.powerSection).isSome && (s.sect p.normalLeg).isSome && (s.sect p.reverseLeg).isSome
    && decide (p.ctrlAddr ≠ s.ownAddr)
    && !((List.finRange 64).any fun g => decide (g ≠ f) && (match s.frog g with
      | some x => decide (x.params.ctrlAddr = p.ctrlAddr)
      | none => false))
    && (s.sectAt p.ctrlAddr).isNone

/-- The position is MOVING. -/
def Position.isMoving : Position → Bool
  | .moving _ => true
  | _ => false

/-- The state guard of LOAD_FROG and UNLOAD_FROG (R83): an empty queue and a position other than MOVING. -/
def Frog.resting (g : Frog) : Bool := g.queue.isEmpty && !g.position.isMoving

/-- A configured frog with its parameters replaced (R65, R66, R84): a new CTRL_ADDR abandons the capture record. -/
def Frog.reloaded (p : FrogParams) (g : Frog) : Frog :=
  if p.ctrlAddr = g.params.ctrlAddr then { g with params := p }
  else { g with params := p, capture := Capture.starting }

/-- LOAD_FROG (R169). -/
def requestLoadFrog (a : List Byte) (s : State) : Verdict :=
  if a.length ≠ 24 then refuse .range s
  else match parseLoadFrog a with
    | none => refuse .range s
    | some (f, p) =>
      if !frogReferencesOk f p s then refuse .range s
      else match s.frog f with
        | none => done (s.putFrog f (some (Frog.starting p)))
        | some g => if g.resting then done (s.putFrog f (some (g.reloaded p))) else refuse .state s

/-- UNLOAD_FROG (R169). -/
def requestUnloadFrog (a : List Byte) (s : State) : Verdict :=
  if a.length ≠ 1 then refuse .range s
  else match indexOf 64 (argU8 a 0) with
    | none => refuse .range s
    | some f => match s.frog f with
      | none => refuse .notFound s
      | some g => if g.resting then done (forgetFrog f (s.putFrog f none)) else refuse .state s

/-- LOAD_FILTER (R170). -/
def requestLoadFilter (a : List Byte) (s : State) : Verdict :=
  if a.length ≠ 10 then refuse .range s
  else match parseLoadFilter a with
    | none => refuse .range s
    | some (r, rule) => done (s.setFilter (s.filter.set r.val rule r.isLt))

/-! ## Reads (R171, R172) -/

/-- The protection record as READ_SECTION carries it (R26, R171). -/
def Protection.bytes (now : Time) (p : Protection) : List Byte :=
  beSigned p.iPrev ++ beSigned p.iLast ++ [p.expectedSeq, p.flagsByte]
    ++ (match p.window with
        | some w => beSigned w.base ++ [u8 w.count] ++ beSigned w.threshold
        | none => [0, 0, 0, 0, 0])
    ++ be32 p.h
    ++ (match p.lowRun with
        | some t => be32 (now - t).toNat
        | none => be32 0)

/-- The section controller's fields as READ_SECTION carries them (R52, R171). -/
def sectFieldBytes (s : State) (i : SectionIx) (x : Sect) : List Byte :=
  [x.state.code, x.state.subCode, u8 x.attempts, originCode x.origin, tripCode x.tripReason, lockCode x.lockReason
  , breakerCode x.lastReport, flagByte x.isolateOnOpen] ++ remainingBytes (x.timer.remaining s.partTime)
    ++ [(x.wait.map OrderKind.code).getD 0x00, u8 (s.vehicleCount i), u8 (s.leakCount i)]

/-- The test unit record as READ_SECTION carries it (R64, R171). -/
def unitBytes (i : SectionIx) (u : TestUnit) : List Byte :=
  [flagByte u.holder.isSome, indexByte u.holder, u8 u.pointer.val, u8 u.waiting.length, flagByte (decide (i ∈ u.waiting))
  , indexByte (u.lastTest.map Prod.fst)] ++ outcomeBytes (u.lastTest.map Prod.snd)

/-- READ_SECTION's data: 39 + 19 + 15 + 9 bytes (R171). -/
def sectionData (s : State) (i : SectionIx) (x : Sect) : List Byte :=
  [u8 i.val] ++ x.params.bytes ++ x.prot.bytes s.partTime ++ sectFieldBytes s i x
    ++ unitBytes i (s.unit x.params.testUnit)

/-- READ_SECTION (R171). -/
def requestReadSection (a : List Byte) (s : State) : Verdict :=
  if a.length ≠ 1 then refuse .range s
  else match indexOf 48 (argU8 a 0) with
    | none => refuse .range s
    | some i => match s.sect i with
      | none => refuse .notFound s
      | some x => .answer s .ok (sectionData s i x)

/-- One queue place as READ_FROG carries it; the width of an entry that is no PASSAGE is free (log entry 15). -/
def requestBytes (w1 w0 : Byte) (r : Request) : List Byte :=
  match r.kind with
  | .passage tag width =>
    [r.kind.headKind.code, r.target.code] ++ tagBytes tag ++ beWord width ++ [r.phase.code]
  | k => [k.headKind.code, r.target.code] ++ tagBytes none ++ [w1, w0] ++ [r.phase.code]

/-- Queue place `n` (R171): 0xFF throughout beyond the queue count. -/
def queuePlace (s : State) (q : List Request) (n : Nat) : List Byte :=
  match q[n]? with
  | some r => requestBytes (freeByteAt s (2 * n)) (freeByteAt s (2 * n + 1)) r
  | none => List.replicate 7 0xFF

/-- The capture record as READ_FROG carries it (R82, R171). -/
def captureBytes (now : Time) (c : Capture) : List Byte :=
  [c.phase.code] ++ beWord c.riseTick ++ beWord c.fallTick ++ [flagByte c.drawHigh] ++ c.drawStart.codes
    ++ be16 c.drawTotal ++ [u8 c.bounces] ++ tagBytes c.tag ++ [flagByte c.stall]
    ++ remainingBytes (c.settle.remaining now) ++ remainingBytes (c.hold.remaining now)

/-- The last conclusion as READ_FROG carries it (R171). Bouncing and route but for a PASSAGE, and W, D and the bounce count
of no conclusion, are free (log entry 15). -/
def conclusionBytes (s : State) (c : Option Conclusion) : List Byte :=
  match c with
  | none =>
    [0x00, freeByteAt s 8, freeByteAt s 9, freeByteAt s 10, freeByteAt s 11, freeByteAt s 12, freeByteAt s 13
    , freeByteAt s 14] ++ tagBytes none
  | some c =>
    match c.judgement with
    | .passage bouncing route =>
      [0x01] ++ beWord c.width ++ be16 c.drawTotal ++ [u8 c.bounces, flagByte bouncing, route.code] ++ tagBytes c.tag
    | .noise =>
      [0x02] ++ beWord c.width ++ be16 c.drawTotal ++ [u8 c.bounces, freeByteAt s 13, freeByteAt s 14] ++ tagBytes c.tag
    | .stall =>
      [0x03] ++ beWord c.width ++ be16 c.drawTotal ++ [u8 c.bounces, freeByteAt s 13, freeByteAt s 14] ++ tagBytes c.tag

/-- READ_FROG's data: 24 + 14 + 28 + 23 + 10 bytes (R171). -/
def frogData (s : State) (f : FrogIx) (g : Frog) : List Byte :=
  [u8 f.val] ++ g.params.bytes
    ++ [g.position.code, g.position.targetCode, g.blocks.code, flagByte g.untracked, u8 g.queue.length
       , (g.wait.map fun r => (throwKind r).code).getD 0x00]
    ++ remainingBytes (g.throwTimer.remaining s.partTime) ++ remainingBytes (g.exitTimer.remaining s.partTime)
    ++ queuePlace s g.queue 0 ++ queuePlace s g.queue 1 ++ queuePlace s g.queue 2 ++ queuePlace s g.queue 3
    ++ captureBytes s.partTime g.capture ++ conclusionBytes s g.capture.last

/-- READ_FROG (R171). -/
def requestReadFrog (a : List Byte) (s : State) : Verdict :=
  if a.length ≠ 1 then refuse .range s
  else match indexOf 64 (argU8 a 0) with
    | none => refuse .range s
    | some f => match s.frog f with
      | none => refuse .notFound s
      | some g => .answer (s.setFreeCount (s.freeCount + 15)) .ok (frogData s f g)

/-- A fault record in seven bytes (R171). -/
def FaultRecord.bytes (r : FaultRecord) : List Byte := [r.code.code] ++ r.place.codes ++ be32 r.heard.toNat

/-- READ_VEHICLE's data (R126, R171). -/
def vehicleData (s : State) (v : Vehicle) : List Byte :=
  bcdBytes v.number ++ [indexByte v.located] ++ be32 v.lastHeard.toNat ++ be32 v.age
    ++ [v.faultsByte, indexByte (v.dewire.getD none), (s.derived v).code, flagByte v.listLost]
    ++ remainingBytes (v.ageTimer.remaining s.partTime) ++ [u8 v.faults.length]
    ++ v.faults.flatMap FaultRecord.bytes

/-- The vehicle number of two argument bytes. -/
def argNumber (a : List Byte) : Option VehicleNumber := bcdNumber (a.getD 0 0) (a.getD 1 0)

/-- READ_VEHICLE (R171). -/
def requestReadVehicle (a : List Byte) (s : State) : Verdict :=
  if a.length ≠ 2 then refuse .range s
  else match argNumber a with
    | none => refuse .range s
    | some n => match s.vehicle n with
      | none => refuse .notFound s
      | some v => .answer s .ok (vehicleData s v)

/-- State and urgency of an order entry in one byte (R172). -/
def Order.stateByte (e : Order) : Byte :=
  match e.state, e.kind.urgent with
  | .queued, false => 0x00
  | .queued, true => 0x01
  | .sent _ _, false => 0x02
  | .sent _ _, true => 0x03

/-- SEQ and ACK timer remaining of an order entry (R172). -/
def Order.sendBytes (now : Time) (e : Order) : List Byte :=
  match e.state with
  | .queued => [0x00, 0xFF, 0xFF]
  | .sent q t => q :: (match t.remaining now with
    | some n => be16 n
    | none => [0xFF, 0xFF])

/-- Owner kind and index (R172). -/
def Owner.bytes : Owner → List Byte
  | .nobody => [0x00, 0xFF]
  | .ofSection i => [0x01, u8 i.val]
  | .ofFrog f => [0x02, u8 f.val]

/-- One entry of READ_ORDERS in nine bytes (R172). -/
def orderBytes (s : State) (e : Order) : List Byte :=
  beWord e.target ++ [e.kind.code, e.stateByte] ++ e.sendBytes s.partTime ++ (s.ownerOf e.target).bytes

/-- READ_ORDERS (R172). -/
def requestReadOrders (a : List Byte) (s : State) : Verdict :=
  if a.length ≠ 1 then refuse .range s
  else if 31 < argU8 a 0 then refuse .range s
  else
    let standing := s.orders.drop (argU8 a 0)
    let returned := standing.take 12
    .answer s (if 12 < standing.length then .full else .ok)
      ([u8 s.orders.length, u8 (argU8 a 0), u8 returned.length] ++ returned.flatMap (orderBytes s))

/-! ## Vehicle and frog requests (R173) -/

/-- POP_FAULT (R118, R173). -/
def requestPopFault (a : List Byte) (s : State) : Verdict :=
  if a.length ≠ 2 then refuse .range s
  else match argNumber a with
    | none => refuse .range s
    | some n => match s.vehicle n with
      | none => refuse .notFound s
      | some v => match v.faults with
        | [] => refuse .empty s
        | r :: rest =>
          .answer (s.editVehicle n fun w => { w with faults := rest, listLost := false }) .ok
            (r.bytes ++ [flagByte v.listLost])

/-- SIGN_OFF_VEHICLE (R116, R173). -/
def requestSignOff (a : List Byte) (s : State) : Verdict :=
  if a.length ≠ 2 then refuse .range s
  else match argNumber a with
    | none => refuse .range s
    | some n => match s.vehicle n with
      | none => refuse .notFound s
      | some _ => done (signOff n s)

/-- BLOCK_FROG (R88, R173). -/
def requestBlockFrog (a : List Byte) (s : State) : Verdict :=
  if a.length ≠ 1 then refuse .range s
  else match indexOf 64 (argU8 a 0) with
    | none => refuse .range s
    | some f => match s.frog f with
      | none => refuse .notFound s
      | some _ => done (noteFrog f (addBlock f .dispatch s))

/-- CLEAR_BLOCK of a reason (R88), with the DEWIRE extension of R87. -/
def clearReason (f : FrogIx) (r : BlockReason) (s : State) : State :=
  if r = .dewire then
    noteFrog f (removeBlock f .dewire (dropDewireAt f (s.editFrog f fun g => { g with untracked := false })))
  else noteFrog f (removeBlock f r s)

/-- CLEAR_BLOCK (R88, R173). -/
def requestClearBlock (a : List Byte) (s : State) : Verdict :=
  if a.length ≠ 2 then refuse .range s
  else match indexOf 64 (argU8 a 0), parseReason (argU8 a 1) with
    | some f, some r => match s.frog f with
      | none => refuse .notFound s
      | some _ => done (clearReason f r s)
    | _, _ => refuse .range s

/-- FLUSH_FROG (R104, R173). -/
def requestFlushFrog (a : List Byte) (s : State) : Verdict :=
  if a.length ≠ 1 then refuse .range s
  else match indexOf 64 (argU8 a 0) with
    | none => refuse .range s
    | some f => match s.frog f with
      | none => refuse .notFound s
      | some _ => done (flushFrog f s)

/-! ## Admission (R161 to R163) -/

/-- A request is judged by its code (R162). -/
def judgeRequest (code : Byte) (a : List Byte) (s : State) : Verdict :=
  match code.toNat with
  | 0x01 => requestStatus a s
  | 0x02 => requestSetMode a s
  | 0x03 => requestRestart a s
  | 0x04 => requestSetGlobals a s
  | 0x10 => requestLoadSection a s
  | 0x11 => requestUnloadSection a s
  | 0x12 => requestLoadFrog a s
  | 0x13 => requestUnloadFrog a s
  | 0x14 => requestLoadFilter a s
  | 0x20 => requestReadSection a s
  | 0x21 => requestReadFrog a s
  | 0x22 => requestReadVehicle a s
  | 0x23 => requestReadOrders a s
  | 0x30 => requestPopFault a s
  | 0x31 => requestSignOff a s
  | 0x40 => requestBlockFrog a s
  | 0x41 => requestClearBlock a s
  | 0x42 => requestFlushFrog a s
  | _ => refuse .unknownRequest s

/-- The reply of an answered request joins the reply queue in the same event (R161). -/
def queueReply (dest : LineAddr) (code : Byte) (tag : BitVec 16) : Verdict → State
  | .answer s r data => s.setReplies (s.replies ++ [{ dest, code, tag, result := r, data }])
  | .silent s => s

/-- A request is taken (R161): discarded unexecuted while the reply queue holds 4, else executed. -/
def takeRequest (src : LineAddr) (code : Byte) (tag : BitVec 16) (a : List Byte) (s : State) : State :=
  if s.replies.length < Config.replyCapacity then queueReply src code tag (judgeRequest code a s) else s

/-- A MGMT frame taken by the management unit (R161): with LEN below 3 it is not executed and not answered. -/
def takeMgmt (f : Frame) (s : State) : State :=
  match f.payload with
  | code :: t1 :: t0 :: a => takeRequest f.src code (word t1 t0) a s
  | _ => s

/-- The payload of a MGMT_REPLY frame (section 10.1). -/
def Reply.payload (r : Reply) : List Byte := [r.code] ++ beWord r.tag ++ [r.result.code] ++ r.data

end Sys2Proof.Machine
end

