-- ==== Sys2Proof/Machine/Link.lean ====
section
/-!
DEFINITION. The section link (spec/08): the classification of a received frame, the processing of field-device frames, the
filter, the arrival of a frame, and the two transmit arbiters.
-/

namespace Sys2Proof.Machine

/-! ## The filter (R149) -/

/-- A rule's port takes in the port of arrival. -/
def RulePort.covers : RulePort → PortId → Bool
  | .uplink, .uplink => true
  | .field, .field => true
  | .either, _ => true
  | _, _ => false

/-- A rule matches a frame that arrived on `p` (R149). -/
def FilterRule.accepts (r : FilterRule) (p : PortId) (f : Frame) : Bool :=
  r.inUse && r.port.covers p && (match r.kind with
    | some k => decide (f.kind = k)
    | none => true)
    && decide (r.srcLow ≤ f.src) && decide (f.src ≤ r.srcHigh)

/-- The first matching rule in increasing index order holds the frame (R149). -/
def held (p : PortId) (f : Frame) (s : State) : Bool :=
  match (List.finRange 32).find? fun r => (s.filter.get r).accepts p f with
  | some r => (s.filter.get r).hold
  | none => false

/-- A frame left to the filter is held, or forwarded to the other port (R149). -/
def fileFrame (p : PortId) (f : Frame) (s : State) : State := if held p f s then s else forward p f s

/-! ## Processing and classification (R144 to R148) -/

/-- Processing of a frame that arrived on FIELD with a SRC other than 0x0000, if its kind, its source and its payload qualify
(R144, R146). -/
def processField (f : Frame) (s : State) : State :=
  if f.kind = kindSample then
    match s.sectAt f.src with
    | some i => if f.payload.length = 32 then takeSamples i f.seq f.payload s else s
    | none => s
  else if f.kind = kindBreaker then
    match s.sectAt f.src, parseBreaker f.payload with
    | some i, some b => takeBreaker i b s
    | _, _ => s
  else if f.kind = kindTestResult then
    match s.sectAt f.src, parseTestResult f.payload with
    | some i, some r => takeResult i r s
    | _, _ => s
  else if f.kind = kindPosition then
    match s.frogAt f.src, parsePosition f.payload with
    | some g, some rep => noteFrog g (positionWork g rep s)
    | _, _ => s
  else if f.kind = kindSkate then
    match s.frogAt f.src, parseSkate f.payload with
    | some g, some events => takeSkate g events s
    | _, _ => s
  else if f.kind = kindVehicle then
    match parseVehicle (fun i => (s.sect i).isSome) (fun g => (s.frog g).isSome) f.payload with
    | some (n, r) => takeReport n r s
    | none => s
  else if f.kind = kindAck then
    match parseAck f.payload with
    | some (seq, accepted) => takeAck f.src seq accepted s
    | none => s
  else s

/-- Processing of a received frame by its port (R146). -/
def process (p : PortId) (f : Frame) (s : State) : State :=
  match p with
  | .field => if f.src = 0x0000 then s else processField f s
  | .uplink => s

/-- An ORDER on UPLINK for a supervised device with SRC not 0x0000 is intercepted (R146 to R148). -/
def intercept (p : PortId) (f : Frame) (s : State) : Option State :=
  if p = .uplink ∧ f.kind = kindOrder ∧ f.src ≠ 0x0000 then
    match s.sectAt f.dest with
    | some i => some (interceptSection i f.payload s)
    | none => match s.frogAt f.dest with
      | some g => some (interceptFrog g f.payload s)
      | none => none
  else none

/-- The frame is a MGMT frame to the part's own line address. -/
def Frame.toPart (f : Frame) (s : State) : Bool := decide (f.kind = kindMgmt) && decide (f.dest = s.ownAddr)

/-- A frame that passed the receive check is classified (R145 in BYPASS, R146 in SUPERVISE). -/
def receiveFrame (p : PortId) (f : Frame) (s : State) : State :=
  if f.toPart s && decide (p = .uplink) && decide (f.src ≠ 0x0000) then takeMgmt f s
  else match s.mode with
    | .bypass => forward p f s
    | .supervise =>
      if f.toPart s && decide (p = .field) then s
      else match intercept p f s with
        | some t => t
        | none => fileFrame p f (process p f s)

/-- Bytes arrive on a port (R143, R174): across the relay while it is closed, else checked on receipt and classified. -/
def arriveBytes (p : PortId) (bytes : List Byte) (s : State) : State :=
  if s.isRunning then
    match parseFrame bytes with
    | some f => receiveFrame p f s
    | none => setCheckErr p s
  else putLine (otherPort p) bytes s

/-- A frame with a correct CHECK arrives on a port; one of more than 120 payload bytes is no frame and is discarded on receipt
(R143; log entry 23). -/
def arriveFrame (p : PortId) (f : Frame) (s : State) : State :=
  if s.isRunning then
    if f.payload.length ≤ 120 then receiveFrame p f s else setCheckErr p s
  else putLine (otherPort p) f.bytes s

/-- A MGMT frame to the part's own line address arrives on UPLINK with this request (section 10.1). -/
def arriveRequest (src : LineAddr) (seq : Byte) (code : Byte) (tag : BitVec 16) (a : List Byte) (s : State) : State :=
  arriveFrame .uplink (makeFrame s.ownAddr src kindMgmt seq ([code] ++ beWord tag ++ a)) s

/-! ## The transmit arbiters (R151 to R154) -/

/-- A candidate is present. -/
def present (s : State) (p : PortId) : Candidate → Bool
  | .reply => !s.replies.isEmpty
  | .notice => !s.notices.isEmpty
  | .normalOrder => (s.candidateOrder false).isSome
  | .forward => !(s.port p).forward.isEmpty

/-- The rotation order after a pick (R151): the candidate picked moves to the end in ROTATING mode. -/
def rotated (m : ArbMode) (c : Candidate) (l : List Candidate) : List Candidate :=
  match m with
  | .fixed => l
  | .rotating => (l.filter fun d => decide (d ≠ c)) ++ [c]

/-- The mode of a port's arbiter (R151). -/
def State.arbMode (s : State) : PortId → ArbMode
  | .uplink => s.globals.arbUplink
  | .field => s.globals.arbField

/-- The rotation order of a port moved on after a pick. -/
def moveRotation (p : PortId) (c : Candidate) (s : State) : State :=
  s.putPort p { s.port p with rotation := rotated (s.arbMode p) c (s.port p).rotation }

/-- An originated frame leaves by a port with the port's sequence counter as SEQ, and the counter increases (R154). -/
def originate (p : PortId) (dest : LineAddr) (kind : Byte) (payload : List Byte) (s : State) : State :=
  s.putPort p { s.port p with
    line := (makeFrame dest s.ownAddr kind (s.port p).seq payload).bytes, seq := (s.port p).seq + 1 }

/-- The head of a port's forward queue leaves unaltered (R142, R152, R153). -/
def sendForward (p : PortId) (s : State) : State :=
  match (s.port p).forward with
  | f :: rest => s.putPort p { s.port p with forward := rest, line := f.bytes }
  | [] => s

/-- An order entry is sent as an ORDER frame on FIELD and becomes SENT (R136). -/
def sendOrder (e : Order) (s : State) : State :=
  originate .field e.target kindOrder [e.kind.code] (markSent e.target s.field.seq s)

/-- The head of the reply queue leaves as a MGMT_REPLY frame on UPLINK (R163). -/
def sendReply (s : State) : State :=
  match s.replies with
  | r :: rest => originate .uplink r.dest kindMgmtReply r.payload (s.setReplies rest)
  | [] => s

/-- The head of the notice queue leaves as a NOTICE frame on UPLINK (R158). -/
def sendNotice (s : State) : State :=
  match s.notices with
  | n :: rest => originate .uplink n.dest kindNotice n.body.payload (s.setNotices rest)
  | [] => s

/-- A picked rotating candidate is sent. -/
def sendCandidate (p : PortId) (c : Candidate) (s : State) : State :=
  match c with
  | .reply => sendReply s
  | .notice => sendNotice s
  | .normalOrder => match s.candidateOrder false with
    | some e => sendOrder e s
    | none => s
  | .forward => sendForward p s

/-- The first present candidate in a port's rotation order is picked and sent; with none there is no frame start (R151). -/
def sendByRotation (p : PortId) (s : State) : State :=
  match (s.port p).rotation.find? (present s p) with
  | some c => sendCandidate p c (moveRotation p c s)
  | none => s

/-- A frame start on FIELD (R152). -/
def startField (s : State) : State :=
  if s.isRunning then
    match s.candidateOrder true with
    | some e => sendOrder e s
    | none => sendByRotation .field s
  else s

/-- A frame start on UPLINK (R153). -/
def startUplink (s : State) : State := if s.isRunning then sendByRotation .uplink s else s

end Sys2Proof.Machine
end

