-- ==== Sys2Proof/Machine/Expiries.lean ====
section
/-!
DEFINITION. The meanings of the timers that expire and the periods that end (spec/00 section 4.2): one definition for
each command, over the shared operations.
-/

namespace Sys2Proof.Machine

/-- SILENCE_TIMER_EXPIRY (R21, R44); a timer that is not due leaves the state as it is (log entry 3). -/
def execSilenceTimerExpiry (i : SectionIx) (s : State) : Host.Outcome State Fault Refusal :=
  .next (silenceExpires i s)

/-- OPEN_TIMEOUT_EXPIRY (R36, R38); a timer that is not due leaves the state as it is (log entry 3). -/
def execOpenTimeoutExpiry (i : SectionIx) (s : State) : Host.Outcome State Fault Refusal :=
  .next (openExpiry i s)

/-- CLOSE_TIMEOUT_EXPIRY (R43, R45); a timer that is not due leaves the state as it is (log entry 3). -/
def execCloseTimeoutExpiry (i : SectionIx) (s : State) : Host.Outcome State Fault Refusal :=
  .next (closeExpiry i s)

/-- TEST_TIMEOUT_EXPIRY (R45, R61); a timer that is not due leaves the state as it is (log entry 3). -/
def execTestTimeoutExpiry (i : SectionIx) (s : State) : Host.Outcome State Fault Refusal :=
  .next (testExpiry i s)

/-- DEAD_WAIT_EXPIRY (R47); a timer that is not due leaves the state as it is (log entry 3). -/
def execDeadWaitExpiry (i : SectionIx) (s : State) : Host.Outcome State Fault Refusal :=
  .next (deadWaitExpires i s)

/-- RECLAIM_EXPIRY (R48); a timer that is not due leaves the state as it is (log entry 3). -/
def execReclaimExpiry (i : SectionIx) (s : State) : Host.Outcome State Fault Refusal :=
  .next (reclaimExpires i s)

/-- SETTLE_EXPIRY (R76, R78 to R81); a timer that is not due leaves the state as it is (log entry 3). -/
def execSettleExpiry (f : FrogIx) (s : State) : Host.Outcome State Fault Refusal :=
  .next (settleExpires f s)

/-- SKATE_HOLD_EXPIRY (R77); a timer that is not due leaves the state as it is (log entry 3). -/
def execSkateHoldExpiry (f : FrogIx) (s : State) : Host.Outcome State Fault Refusal :=
  .next (holdExpires f s)

/-- THROW_TIMER_EXPIRY (R99); a timer that is not due leaves the state as it is (log entry 3). -/
def execThrowTimerExpiry (f : FrogIx) (s : State) : Host.Outcome State Fault Refusal :=
  .next (throwExpiry f s)

/-- EXIT_TIMER_EXPIRY (R102); a timer that is not due leaves the state as it is (log entry 3). -/
def execExitTimerExpiry (f : FrogIx) (s : State) : Host.Outcome State Fault Refusal :=
  .next (exitExpiry f s)

/-- EXIT_TIMER_FIRST_PERIOD_END (R83); a timer that is not due leaves the state as it is (log entry 3). -/
def execExitTimerFirstPeriodEnd (f : FrogIx) (s : State) : Host.Outcome State Fault Refusal :=
  .next (exitFirstPeriod f s)

/-- AGE_TIMER_EXPIRY (R123); a timer that is not due leaves the state as it is (log entry 3). -/
def execAgeTimerExpiry (n : VehicleNumber) (s : State) : Host.Outcome State Fault Refusal :=
  .next (ageExpiry n s)

/-- ACK_TIMER_EXPIRY (R139, R140); a timer that is not due leaves the state as it is (log entry 3). -/
def execAckTimerExpiry (target : LineAddr) (s : State) : Host.Outcome State Fault Refusal :=
  .next (ackExpiry target s)

/-- RECLAIM_PERIOD_END (R27); a timer that is not due leaves the state as it is (log entry 3). -/
def execReclaimPeriodEnd (i : SectionIx) (s : State) : Host.Outcome State Fault Refusal :=
  .next (reclaimPeriod i s)

/-- AGE_TIMER_PERIOD_END (R123); a timer that is not due leaves the state as it is (log entry 3). -/
def execAgeTimerPeriodEnd (n : VehicleNumber) (s : State) : Host.Outcome State Fault Refusal :=
  .next (agePeriod n s)

end Sys2Proof.Machine
end

