-- ==== Sys2Proof/Machine/FieldFrames.lean ====
section
/-!
DEFINITION. The meanings of the field-device frames and the intercepted dispatcher orders (spec/08 section 8.1, R144
to R148): one definition for each command, over the shared operations.
-/

namespace Sys2Proof.Machine

/-- SAMPLE_FRAME (R4 to R9, R143 to R150): a frame of KIND SAMPLE with a correct CHECK arrives on FIELD. -/
def execSampleFrame (dest src : LineAddr) (seq : Byte) (payload : List Byte) (s : State) :
    Host.Outcome State Fault Refusal :=
  .next (arriveFrame .field (makeFrame dest src kindSample seq payload) s)

/-- BREAKER_REPORT (R30 to R34, R36, R38, R43): a frame of KIND BREAKER with a correct CHECK arrives on FIELD. -/
def execBreakerReport (dest src : LineAddr) (seq : Byte) (payload : List Byte) (s : State) :
    Host.Outcome State Fault Refusal :=
  .next (arriveFrame .field (makeFrame dest src kindBreaker seq payload) s)

/-- TEST_RESULT_FRAME (R59, R60, R62): a frame of KIND TEST_RESULT with a correct CHECK arrives on FIELD. -/
def execTestResultFrame (dest src : LineAddr) (seq : Byte) (payload : List Byte) (s : State) :
    Host.Outcome State Fault Refusal :=
  .next (arriveFrame .field (makeFrame dest src kindTestResult seq payload) s)

/-- ORDER_INTERCEPT_SECTION (R37, R39, R147): a frame of KIND ORDER with a correct CHECK arrives on UPLINK; one whose
DEST is a configured feeder is intercepted. -/
def execOrderInterceptSection (dest src : LineAddr) (seq : Byte) (payload : List Byte) (s : State) :
    Host.Outcome State Fault Refusal :=
  .next (arriveFrame .uplink (makeFrame dest src kindOrder seq payload) s)

/-- ORDER_INTERCEPT_FROG (R91, R148): a frame of KIND ORDER with a correct CHECK arrives on UPLINK; one whose DEST is
a configured frog controller is intercepted. -/
def execOrderInterceptFrog (dest src : LineAddr) (seq : Byte) (payload : List Byte) (s : State) :
    Host.Outcome State Fault Refusal :=
  .next (arriveFrame .uplink (makeFrame dest src kindOrder seq payload) s)

/-- SKATE_FRAME (R67 to R75): a frame of KIND SKATE with a correct CHECK arrives on FIELD. -/
def execSkateFrame (dest src : LineAddr) (seq : Byte) (payload : List Byte) (s : State) :
    Host.Outcome State Fault Refusal :=
  .next (arriveFrame .field (makeFrame dest src kindSkate seq payload) s)

/-- POSITION_REPORT (R97, R98, R103): a frame of KIND POSITION with a correct CHECK arrives on FIELD. -/
def execPositionReport (dest src : LineAddr) (seq : Byte) (payload : List Byte) (s : State) :
    Host.Outcome State Fault Refusal :=
  .next (arriveFrame .field (makeFrame dest src kindPosition seq payload) s)

/-- VEHICLE_FRAME (R108 to R116): a frame of KIND VEHICLE with a correct CHECK arrives on FIELD. -/
def execVehicleFrame (dest src : LineAddr) (seq : Byte) (payload : List Byte) (s : State) :
    Host.Outcome State Fault Refusal :=
  .next (arriveFrame .field (makeFrame dest src kindVehicle seq payload) s)

/-- ACK_FRAME (R137, R138, R140): a frame of KIND ACK with a correct CHECK arrives on FIELD. -/
def execAckFrame (dest src : LineAddr) (seq : Byte) (payload : List Byte) (s : State) :
    Host.Outcome State Fault Refusal :=
  .next (arriveFrame .field (makeFrame dest src kindAck seq payload) s)

end Sys2Proof.Machine
end

