-- ==== Sys2Proof/Machine/LinkEvents.lean ====
section
/-!
DEFINITION. The meanings of the raw arrival of bytes and the frame starts of the two transmit arbiters (spec/08): one
definition for each command, over the shared operations.
-/

namespace Sys2Proof.Machine

/-- FRAME_ARRIVAL (R143 to R150): these bytes arrive on this port between the line's delimiters. -/
def execFrameArrival (port : PortId) (bytes : List Byte) (s : State) : Host.Outcome State Fault Refusal :=
  .next (arriveBytes port bytes s)

/-- FIELD_FRAME_START (R135, R136, R151, R152, R154). -/
def execFieldFrameStart (s : State) : Host.Outcome State Fault Refusal :=
  .next (startField s)

/-- UPLINK_FRAME_START (R151, R153, R154, R158, R163). -/
def execUplinkFrameStart (s : State) : Host.Outcome State Fault Refusal :=
  .next (startUplink s)

end Sys2Proof.Machine
end

