-- ==== Sys2Proof/Machine/Requests.lean ====
section
/-!
DEFINITION. The meanings of the management requests (spec/10): one definition for each command, over the shared
operations.
-/

namespace Sys2Proof.Machine

/-- UNKNOWN_REQUEST (R161, R162): a request with this code arrives on UPLINK. -/
def execUnknownRequest (src : LineAddr) (seq : Byte) (tag : BitVec 16) (code : Byte) (args : List Byte) (s : State) :
    Host.Outcome State Fault Refusal :=
  .next (arriveRequest src seq code tag args s)

/-- STATUS (R161 to R163, R155, R159, R164): request code 0x01. -/
def execStatus (src : LineAddr) (seq : Byte) (tag : BitVec 16) (args : List Byte) (s : State) :
    Host.Outcome State Fault Refusal :=
  .next (arriveRequest src seq 0x01 tag args s)

/-- SET_MODE (R161 to R163, R165, R177): request code 0x02. -/
def execSetMode (src : LineAddr) (seq : Byte) (tag : BitVec 16) (args : List Byte) (s : State) :
    Host.Outcome State Fault Refusal :=
  .next (arriveRequest src seq 0x02 tag args s)

/-- RESTART (R161 to R163, R165, R174): request code 0x03. -/
def execRestart (src : LineAddr) (seq : Byte) (tag : BitVec 16) (args : List Byte) (s : State) :
    Host.Outcome State Fault Refusal :=
  .next (arriveRequest src seq 0x03 tag args s)

/-- SET_GLOBALS (R161 to R163, R123, R166): request code 0x04. -/
def execSetGlobals (src : LineAddr) (seq : Byte) (tag : BitVec 16) (args : List Byte) (s : State) :
    Host.Outcome State Fault Refusal :=
  .next (arriveRequest src seq 0x04 tag args s)

/-- LOAD_SECTION (R161 to R163, R3, R29, R167): request code 0x10. -/
def execLoadSection (src : LineAddr) (seq : Byte) (tag : BitVec 16) (args : List Byte) (s : State) :
    Host.Outcome State Fault Refusal :=
  .next (arriveRequest src seq 0x10 tag args s)

/-- UNLOAD_SECTION (R161 to R163, R29, R122, R168): request code 0x11. -/
def execUnloadSection (src : LineAddr) (seq : Byte) (tag : BitVec 16) (args : List Byte) (s : State) :
    Host.Outcome State Fault Refusal :=
  .next (arriveRequest src seq 0x11 tag args s)

/-- LOAD_FROG (R161 to R163, R65, R83, R84, R169): request code 0x12. -/
def execLoadFrog (src : LineAddr) (seq : Byte) (tag : BitVec 16) (args : List Byte) (s : State) :
    Host.Outcome State Fault Refusal :=
  .next (arriveRequest src seq 0x12 tag args s)

/-- UNLOAD_FROG (R161 to R163, R84, R122, R169): request code 0x13. -/
def execUnloadFrog (src : LineAddr) (seq : Byte) (tag : BitVec 16) (args : List Byte) (s : State) :
    Host.Outcome State Fault Refusal :=
  .next (arriveRequest src seq 0x13 tag args s)

/-- LOAD_FILTER (R161 to R163, R170): request code 0x14. -/
def execLoadFilter (src : LineAddr) (seq : Byte) (tag : BitVec 16) (args : List Byte) (s : State) :
    Host.Outcome State Fault Refusal :=
  .next (arriveRequest src seq 0x14 tag args s)

/-- READ_SECTION (R161 to R163, R171): request code 0x20. -/
def execReadSection (src : LineAddr) (seq : Byte) (tag : BitVec 16) (args : List Byte) (s : State) :
    Host.Outcome State Fault Refusal :=
  .next (arriveRequest src seq 0x20 tag args s)

/-- READ_FROG (R161 to R163, R171): request code 0x21. -/
def execReadFrog (src : LineAddr) (seq : Byte) (tag : BitVec 16) (args : List Byte) (s : State) :
    Host.Outcome State Fault Refusal :=
  .next (arriveRequest src seq 0x21 tag args s)

/-- READ_VEHICLE (R161 to R163, R171): request code 0x22. -/
def execReadVehicle (src : LineAddr) (seq : Byte) (tag : BitVec 16) (args : List Byte) (s : State) :
    Host.Outcome State Fault Refusal :=
  .next (arriveRequest src seq 0x22 tag args s)

/-- READ_ORDERS (R161 to R163, R172): request code 0x23. -/
def execReadOrders (src : LineAddr) (seq : Byte) (tag : BitVec 16) (args : List Byte) (s : State) :
    Host.Outcome State Fault Refusal :=
  .next (arriveRequest src seq 0x23 tag args s)

/-- POP_FAULT (R161 to R163, R118, R173): request code 0x30. -/
def execPopFault (src : LineAddr) (seq : Byte) (tag : BitVec 16) (args : List Byte) (s : State) :
    Host.Outcome State Fault Refusal :=
  .next (arriveRequest src seq 0x30 tag args s)

/-- SIGN_OFF_VEHICLE (R161 to R163, R116, R173): request code 0x31. -/
def execSignOffVehicle (src : LineAddr) (seq : Byte) (tag : BitVec 16) (args : List Byte) (s : State) :
    Host.Outcome State Fault Refusal :=
  .next (arriveRequest src seq 0x31 tag args s)

/-- BLOCK_FROG (R161 to R163, R88, R173): request code 0x40. -/
def execBlockFrog (src : LineAddr) (seq : Byte) (tag : BitVec 16) (args : List Byte) (s : State) :
    Host.Outcome State Fault Refusal :=
  .next (arriveRequest src seq 0x40 tag args s)

/-- CLEAR_BLOCK (R161 to R163, R87, R88, R173): request code 0x41. -/
def execClearBlock (src : LineAddr) (seq : Byte) (tag : BitVec 16) (args : List Byte) (s : State) :
    Host.Outcome State Fault Refusal :=
  .next (arriveRequest src seq 0x41 tag args s)

/-- FLUSH_FROG (R161 to R163, R104, R173): request code 0x42. -/
def execFlushFrog (src : LineAddr) (seq : Byte) (tag : BitVec 16) (args : List Byte) (s : State) :
    Host.Outcome State Fault Refusal :=
  .next (arriveRequest src seq 0x42 tag args s)

end Sys2Proof.Machine
end

