-- ==== Sys2Proof/Machine/Resets.lean ====
section
/-!
DEFINITION. The meanings of the resets, their end and the end of the start-up hold (spec/11): one definition for each
command, over the shared operations.
-/

namespace Sys2Proof.Machine

/-- POWER_ON_RESET (R174): the supplies are not yet in range (log entry 6). -/
def execPowerOnReset (s : State) : Host.Outcome State Fault Refusal :=
  .next { beginReset .powerOn s with supplyOk := false }

/-- SUPPLY_DIP_RESET (R174): a supply is out of range (log entry 6). -/
def execSupplyDipReset (s : State) : Host.Outcome State Fault Refusal :=
  .next { beginReset .supplyDip s with supplyOk := false }

/-- RESET_PIN (R174): RESET_N is low (log entry 6). -/
def execResetPin (s : State) : Host.Outcome State Fault Refusal :=
  .next { beginReset .resetPin s with resetN := false }

/-- RESET_END (R174): the start-up hold begins. -/
def execResetEnd (s : State) : Host.Outcome State Fault Refusal :=
  .next (endReset s)

/-- START_UP_HOLD_END (R175 to R177); a hold that has time left goes on (log entry 7). -/
def execStartUpHoldEnd (straps : Byte) (autorun : Bool) (s : State) : Host.Outcome State Fault Refusal :=
  .next (endHold straps autorun s)

end Sys2Proof.Machine
end

