-- ==== Sys2Proof/Machine/Dispatch.lean ====
section
/-!
DEFINITION. The dispatch of a command to its meaning, one arm for each row of spec/opcode_table.json.
-/

namespace Sys2Proof.Machine

def exec (i : Instr) (s : State) : Host.Outcome State Fault Refusal :=
  match i with
  | .sampleFrame dest src seq payload => Sys2Proof.Machine.execSampleFrame dest src seq payload s
  | .silenceTimerExpiry k => Sys2Proof.Machine.execSilenceTimerExpiry k s
  | .breakerReport dest src seq payload => Sys2Proof.Machine.execBreakerReport dest src seq payload s
  | .openTimeoutExpiry k => Sys2Proof.Machine.execOpenTimeoutExpiry k s
  | .closeTimeoutExpiry k => Sys2Proof.Machine.execCloseTimeoutExpiry k s
  | .testTimeoutExpiry k => Sys2Proof.Machine.execTestTimeoutExpiry k s
  | .deadWaitExpiry k => Sys2Proof.Machine.execDeadWaitExpiry k s
  | .reclaimExpiry k => Sys2Proof.Machine.execReclaimExpiry k s
  | .testResultFrame dest src seq payload => Sys2Proof.Machine.execTestResultFrame dest src seq payload s
  | .orderInterceptSection dest src seq payload => Sys2Proof.Machine.execOrderInterceptSection dest src seq payload s
  | .orderInterceptFrog dest src seq payload => Sys2Proof.Machine.execOrderInterceptFrog dest src seq payload s
  | .skateFrame dest src seq payload => Sys2Proof.Machine.execSkateFrame dest src seq payload s
  | .settleExpiry f => Sys2Proof.Machine.execSettleExpiry f s
  | .skateHoldExpiry f => Sys2Proof.Machine.execSkateHoldExpiry f s
  | .positionReport dest src seq payload => Sys2Proof.Machine.execPositionReport dest src seq payload s
  | .throwTimerExpiry f => Sys2Proof.Machine.execThrowTimerExpiry f s
  | .exitTimerExpiry f => Sys2Proof.Machine.execExitTimerExpiry f s
  | .exitTimerFirstPeriodEnd f => Sys2Proof.Machine.execExitTimerFirstPeriodEnd f s
  | .vehicleFrame dest src seq payload => Sys2Proof.Machine.execVehicleFrame dest src seq payload s
  | .ageTimerExpiry n => Sys2Proof.Machine.execAgeTimerExpiry n s
  | .ackFrame dest src seq payload => Sys2Proof.Machine.execAckFrame dest src seq payload s
  | .ackTimerExpiry target => Sys2Proof.Machine.execAckTimerExpiry target s
  | .fieldFrameStart => Sys2Proof.Machine.execFieldFrameStart s
  | .uplinkFrameStart => Sys2Proof.Machine.execUplinkFrameStart s
  | .frameArrival port bytes => Sys2Proof.Machine.execFrameArrival port bytes s
  | .unknownRequest src seq tag code args => Sys2Proof.Machine.execUnknownRequest src seq tag code args s
  | .status src seq tag args => Sys2Proof.Machine.execStatus src seq tag args s
  | .setMode src seq tag args => Sys2Proof.Machine.execSetMode src seq tag args s
  | .restart src seq tag args => Sys2Proof.Machine.execRestart src seq tag args s
  | .setGlobals src seq tag args => Sys2Proof.Machine.execSetGlobals src seq tag args s
  | .loadSection src seq tag args => Sys2Proof.Machine.execLoadSection src seq tag args s
  | .unloadSection src seq tag args => Sys2Proof.Machine.execUnloadSection src seq tag args s
  | .loadFrog src seq tag args => Sys2Proof.Machine.execLoadFrog src seq tag args s
  | .unloadFrog src seq tag args => Sys2Proof.Machine.execUnloadFrog src seq tag args s
  | .loadFilter src seq tag args => Sys2Proof.Machine.execLoadFilter src seq tag args s
  | .readSection src seq tag args => Sys2Proof.Machine.execReadSection src seq tag args s
  | .readFrog src seq tag args => Sys2Proof.Machine.execReadFrog src seq tag args s
  | .readVehicle src seq tag args => Sys2Proof.Machine.execReadVehicle src seq tag args s
  | .readOrders src seq tag args => Sys2Proof.Machine.execReadOrders src seq tag args s
  | .popFault src seq tag args => Sys2Proof.Machine.execPopFault src seq tag args s
  | .signOffVehicle src seq tag args => Sys2Proof.Machine.execSignOffVehicle src seq tag args s
  | .blockFrog src seq tag args => Sys2Proof.Machine.execBlockFrog src seq tag args s
  | .clearBlock src seq tag args => Sys2Proof.Machine.execClearBlock src seq tag args s
  | .flushFrog src seq tag args => Sys2Proof.Machine.execFlushFrog src seq tag args s
  | .powerOnReset => Sys2Proof.Machine.execPowerOnReset s
  | .supplyDipReset => Sys2Proof.Machine.execSupplyDipReset s
  | .resetPin => Sys2Proof.Machine.execResetPin s
  | .resetEnd => Sys2Proof.Machine.execResetEnd s
  | .startUpHoldEnd straps autorun => Sys2Proof.Machine.execStartUpHoldEnd straps autorun s
  | .reclaimPeriodEnd k => Sys2Proof.Machine.execReclaimPeriodEnd k s
  | .ageTimerPeriodEnd n => Sys2Proof.Machine.execAgeTimerPeriodEnd n s

end Sys2Proof.Machine
end

