-- ==== Sys2Proof/Safety.lean ====
section
/-!
DEFINITION. What counts as a state in order: the laws of the part that the manual states (R15, R30, R48, R55, R83, R85,
R89, R106, R117, R121, R127, R129, R150, R158, R163), as predicates of a state, and the masks with which a statement says
what a command leaves as it was. The laws that tie two tables together are asked only while the part runs: a reset clears
configuration at its start and the dynamic tables at the end of the hold (R174 to R176; log entry 20).
-/

namespace Sys2Proof.Machine

/-! ## The laws -/

/-- A current within its clamp (R5). -/
def CurrentOk (i : Int) : Prop := -Config.currentMax ≤ i ∧ i ≤ Config.currentMax

/-- A section in order: H in its range (R15), the attempt count within RECLOSE_MAX (R48), LIVE only on a last report of
CLOSED (R30), the recorded currents within the clamp (R5), and a frozen threshold of at most 8000 A (R11). -/
structure SectionOk (x : Sect) : Prop where
  heat : x.prot.h ≤ Config.hMax
  attempts : x.attempts ≤ x.params.recloseMax
  liveOnClosed : x.state = .live → x.lastReport = some .closed
  previous : CurrentOk x.prot.iPrev
  last : CurrentOk x.prot.iLast
  threshold : ∀ w, x.prot.window = some w → CurrentOk w.base ∧ w.threshold ≤ Config.currentMax

/-- Every configured section is in order. -/
def SectionsOk (s : State) : Prop := ∀ i x, s.sect i = some x → SectionOk x

/-- Section `i` is in this state with this TEST_UNIT. -/
def inTestState (s : State) (i : SectionIx) (sub : Substate) (u : UnitIx) : Prop :=
  ∃ x, s.sect i = some x ∧ x.state = .energizing sub ∧ x.params.testUnit = u

/-- A test unit in order (R54, R55): its holder is the section in TESTING that names it, its waiting set the sections in
TEST_WAIT that name it, and no section waits on a free unit. -/
structure UnitOk (s : State) (u : UnitIx) : Prop where
  holder : ∀ i, (s.unit u).holder = some i ↔ inTestState s i .testing u
  waiting : ∀ i, i ∈ (s.unit u).waiting ↔ inTestState s i .testWait u
  free : (s.unit u).holder = none → (s.unit u).waiting = []

/-- Every test unit is in order while the part runs. -/
def UnitsOk (s : State) : Prop := s.activity = .running → ∀ u, UnitOk s u

/-- A frog in order: at most 4 entries of which only the head has left WAITING (R89), MOVING with the head's target exactly
while the head is THROWING (R85), and only a PASSAGE rests in SET (R100). -/
structure FrogOk (g : Frog) : Prop where
  room : g.queue.length ≤ Config.requestCapacity
  behind : ∀ r ∈ g.queue.tail, r.phase = .waiting
  moving : ∀ t, g.position = .moving t ↔ ∃ r rest, g.queue = r :: rest ∧ r.phase = .throwing ∧ r.target = t
  setHead : headIn .set g.queue = headSetPassage g.queue

/-- Every configured frog is in order. -/
def FrogsOk (s : State) : Prop := ∀ f g, s.frog f = some g → FrogOk g

/-- Every line address the part supervises names one device (R83, R127), and every frog's three sections are configured
(R83). -/
structure AddressesOk (s : State) : Prop where
  feeders : ∀ i j x y, s.sect i = some x → s.sect j = some y → x.params.feederAddr = y.params.feederAddr → i = j
  controllers : ∀ f k g h, s.frog f = some g → s.frog k = some h → g.params.ctrlAddr = h.params.ctrlAddr → f = k
  apart : ∀ i f x g, s.sect i = some x → s.frog f = some g → x.params.feederAddr ≠ g.params.ctrlAddr
  power : ∀ f g, s.frog f = some g → (s.sect g.params.powerSection).isSome = true
  legs : ∀ f g r, s.frog f = some g → (s.sect (g.params.leg r)).isSome = true

/-- The vehicle table in order: at most 128 entries of different numbers, each vehicle's section configured while the part
runs (R106), and at most four fault records each (R117). -/
structure VehiclesOk (s : State) : Prop where
  room : s.vehicles.length ≤ Config.vehicleCapacity
  numbers : (s.vehicles.map Vehicle.number).Nodup
  records : ∀ v ∈ s.vehicles, v.faults.length ≤ Config.faultCapacity
  places : s.activity = .running → ∀ v ∈ s.vehicles, ∀ i, v.located = some i → (s.sect i).isSome = true

/-- A frog at which a vehicle holds an active DEWIRE has DEWIRE in its block set, while the part runs (R87, R121). -/
def DewireOk (s : State) : Prop :=
  s.activity = .running → ∀ v ∈ s.vehicles, ∀ f, v.dewire = some (some f) →
    ∃ g, s.frog f = some g ∧ g.blocks.dewire = true

/-- The order list in order (R129): one live entry for a target, at most 32 entries, at most 28 of them NORMAL. -/
structure OrdersOk (s : State) : Prop where
  targets : (s.orders.map Order.target).Nodup
  room : s.orders.length ≤ Config.orderCapacity
  reserve : (s.orders.filter fun e => !e.kind.urgent).length ≤ Config.orderCapacity - Config.orderReserve

/-- The queues within their capacities (R150, R158, R163). -/
structure QueuesOk (s : State) : Prop where
  notices : s.notices.length ≤ Config.noticeCapacity
  replies : s.replies.length ≤ Config.replyCapacity
  uplink : s.uplink.forward.length ≤ Config.forwardCapacity
  field : s.field.forward.length ≤ Config.forwardCapacity

/-- A section at rest in BYPASS (R20, R28). -/
def Sect.quiet (x : Sect) : Prop := x.state = .unknown ∧ x.timer = .stopped ∧ x.prot.silence = .stopped

/-- A frog at rest in BYPASS (R66, R84). -/
def Frog.quiet (g : Frog) : Prop :=
  g.position = .unknown ∧ g.queue = [] ∧ g.throwTimer = .stopped ∧ g.exitTimer = .stopped ∧ g.capture = Capture.starting

/-- While the part runs in BYPASS nothing moves: every section rests in UNKNOWN, every frog has an empty queue and an idle
capture record, the vehicle table and the order list are empty (R28, R66, R84, R106, R128). -/
def BypassQuiet (s : State) : Prop :=
  s.activity = .running → s.mode = .bypass →
    (∀ i x, s.sect i = some x → x.quiet) ∧ (∀ f g, s.frog f = some g → g.quiet) ∧ s.vehicles = [] ∧ s.orders = []

/-! ## The terms of the statements -/

/-- The part runs in SUPERVISE. -/
def State.supervising (s : State) : Prop := s.activity = .running ∧ s.mode = .supervise

/-- A request from `src` with these arguments is taken: the part runs, the source is valid, the arguments fit a frame and the
reply queue has room (R161). -/
def State.takes (s : State) (src : LineAddr) (a : List Byte) : Prop :=
  s.activity = .running ∧ src ≠ 0x0000 ∧ a.length ≤ 117 ∧ s.replies.length < Config.replyCapacity

/-- The state with a reply queued (R161, R162). -/
def State.answered (s : State) (dest : LineAddr) (code : Byte) (tag : BitVec 16) (r : ResultCode) (data : List Byte) :
    State :=
  s.setReplies (s.replies ++ [{ dest, code, tag, result := r, data }])

/-- No section and no frog keeps a registration wait. -/
def State.noWaits (s : State) : Prop :=
  (∀ i x, s.sect i = some x → x.wait = none) ∧ (∀ f g, s.frog f = some g → g.wait = none)

/-- The state to which a BREAKER report takes a section, by the table of spec/02 section 2.3. -/
def breakerNext (b : BreakerState) (x : Sect) : SectionState :=
  match b, x.state with
  | .fault, _ => .lockedOut
  | .opened, .unknown => .isolated
  | .opened, .live => if x.params.recloseMax = 0 then .lockedOut else .deadWait
  | .opened, .tripping =>
    if x.isolateOnOpen then .isolated else if x.params.recloseMax = 0 then .lockedOut else .deadWait
  | .opened, .isolating => .isolated
  | .opened, st => st
  | .closed, .live => .live
  | .closed, .tripping => .tripping
  | .closed, .isolating => .isolating
  | .closed, _ => .live

/-- The state and the lock-out reason after an attempt failure, by the table of R45 (an origin of NONE, which no attempt has,
as DISPATCH: log entry 21). -/
def afterFailure (cause : LockReason) (x : Sect) : SectionState × Option LockReason :=
  if x.origin = some .auto then
    if x.attempts < x.params.recloseMax then (.deadWait, x.lockReason) else (.lockedOut, some .exhausted)
  else (.lockedOut, some cause)

/-- The state timer after entry to a resting state, to LIVE or to DEAD_WAIT (spec/02 section 2.2). -/
def restingTimer (now : Time) (st : SectionState) (p : SectionParams) : Timer :=
  match st with
  | .live => .running (now + 1000) (p.reclaimTime - 1) 1000
  | .deadWait => .running (now + BitVec.ofNat 32 p.recloseDead) 0 0
  | _ => .stopped

/-! ## Test units after an event (R42, R55 to R57, R63) -/

/-- Section `j` is the first of a waiting set in cyclic index order from a rotation pointer (R55): no member lies fewer places
on from the pointer, counted modulo 48. -/
def firstFrom (pointer : SectionIx) (w : List SectionIx) (j : SectionIx) : Prop :=
  j ∈ w ∧ ∀ k ∈ w, (j - pointer).val ≤ (k - pointer).val

/-- A registration by a section, the order list being `l` (R49): the list after it, and the registration wait that the section
keeps where it is refused. (`register` is stated in Registration.) -/
def asked (l : List Order) (a : LineAddr) (k : OrderKind) : List Order × Option OrderKind :=
  ((register l a k).1, match (register l a k).2 with
    | .taken => none
    | .merged => none
    | .conflict => some k
    | .noRoom => some k)

/-- Section `j` has entered TESTING from TEST_WAIT (R42), the order list before being `l`: TEST_TIMEOUT runs, its TEST has been
registered with its feeder, and nothing else of the section changed. -/
def entersTesting (l : List Order) (s t : State) (j : SectionIx) : Prop :=
  ∃ x, s.sect j = some x ∧
    t.sect j = some { x with
      state := .energizing .testing, wait := (asked l x.params.feederAddr .test).2
      timer := .running (s.partTime + BitVec.ofNat 32 x.params.testTimeout) 0 0 } ∧
    t.orders = (asked l x.params.feederAddr .test).1

/-- Section `i` was TESTING and is no longer, and section `j` is the one its unit is granted to (R55, R57). -/
def granted (i : SectionIx) (s t : State) (j : SectionIx) : Prop :=
  ∃ x y, s.sect i = some x ∧ t.sect i = some y ∧ x.state = .energizing .testing ∧ y.state ≠ .energizing .testing ∧
    firstFrom (s.unit x.params.testUnit).pointer (s.unit x.params.testUnit).waiting j

/-- What an event that has left the order list as in `l` by section `i`'s own part leaves of the others: the sections other than
`i` and the list are as they were, but for the section that is granted the test unit `i` has left: that one enters TESTING
and registers its TEST (R42, R55, R57). -/
def othersKept (i : SectionIx) (l : List Order) (s t : State) : Prop :=
  (∀ j, j ≠ i → (granted i s t j → entersTesting l s t j) ∧ (¬ granted i s t j → t.sect j = s.sect j)) ∧
  ((∀ j, ¬ granted i s t j) → t.orders = l)

/-- The test units after section `i` has gone from one state to another otherwise than by a grant. Leaving TEST_WAIT, it is out
of its unit's waiting set (R56). Leaving TESTING, its unit has its last test recorded (R57, R63), and is FREE, or held by
the first waiting section with the rotation pointer past that section (R55). Every other unit is as it was. -/
def unitsAfter (i : SectionIx) (o : TestOutcome) (s t : State) : Prop :=
  ∀ x y, s.sect i = some x → t.sect i = some y →
    (∀ u, u ≠ x.params.testUnit ∨ y.state = x.state ∨
        (x.state ≠ .energizing .testWait ∧ x.state ≠ .energizing .testing) → t.unit u = s.unit u) ∧
    (x.state = .energizing .testWait → y.state ≠ .energizing .testWait →
      t.unit x.params.testUnit = { s.unit x.params.testUnit with
        waiting := (s.unit x.params.testUnit).waiting.filter fun k => decide (k ≠ i) }) ∧
    (x.state = .energizing .testing → y.state ≠ .energizing .testing →
      ((s.unit x.params.testUnit).waiting = [] → t.unit x.params.testUnit =
        { holder := none, waiting := [], pointer := (s.unit x.params.testUnit).pointer, lastTest := some (i, o) }) ∧
      (∀ j, firstFrom (s.unit x.params.testUnit).pointer (s.unit x.params.testUnit).waiting j →
        t.unit x.params.testUnit =
          { holder := some j, pointer := j + 1, lastTest := some (i, o)
            waiting := (s.unit x.params.testUnit).waiting.filter fun k => decide (k ≠ j) }))

/-- The SECTION_STATE notice of R51, with the fields of the section `y`. -/
def stateTold (i : SectionIx) (y : Sect) (s : State) : State :=
  raise (.sectionState i y.state y.tripReason y.lockReason y.attempts y.prot.h) s

/-- The notices of an event that has told section `i`'s own part as in `q`: no more, or, where a section is granted the unit `i`
has left, that section's SECTION_STATE after them (R51, R57). -/
def toldThen (i : SectionIx) (q s t : State) : Prop :=
  (∀ j z, granted i s t j → t.sect j = some z →
    t.notices = (stateTold j z q).notices ∧ t.noticeLost = (stateTold j z q).noticeLost) ∧
  ((∀ j, ¬ granted i s t j) → t.notices = q.notices ∧ t.noticeLost = q.noticeLost)

/-- The section `x`, in `t` section `i`, has passed to TEST_WAIT (R40, R54, R55). A FREE unit is granted to it at once: it is
TESTING, with TEST_TIMEOUT running and its TEST registered (R42), and the pointer stands past it. A HELD unit has it in its
waiting set, and the section rests in TEST_WAIT with no timer and no order. -/
def joinsUnit (i : SectionIx) (x : Sect) (s t : State) : Prop :=
  ((s.unit x.params.testUnit).holder = none →
    t.unit x.params.testUnit =
      { holder := some i, waiting := [], pointer := i + 1, lastTest := (s.unit x.params.testUnit).lastTest } ∧
    t.sect i = some { x with
      state := .energizing .testing, wait := (asked s.orders x.params.feederAddr .test).2
      timer := .running (s.partTime + BitVec.ofNat 32 x.params.testTimeout) 0 0 } ∧
    t.orders = (asked s.orders x.params.feederAddr .test).1) ∧
  ((s.unit x.params.testUnit).holder ≠ none →
    t.unit x.params.testUnit = { s.unit x.params.testUnit with
      waiting := (List.finRange 48).filter fun k => decide (k = i ∨ k ∈ (s.unit x.params.testUnit).waiting) } ∧
    t.sect i = some { x with state := .energizing .testWait, timer := .stopped, wait := none } ∧ t.orders = s.orders) ∧
  (∀ u, u ≠ x.params.testUnit → t.unit u = s.unit u)

/-- Section `i` has lost its power (R25, R93): the frogs it powers have their heads checked, so a WAITING head's registration
wait is withdrawn; every other frog, and every other field of these, is as it was. -/
def waitsWithdrawn (i : SectionIx) (s t : State) : Prop :=
  ∀ f, t.frog f = (s.frog f).map fun g =>
    if decide (g.params.powerSection = i) && g.queue.head?.any (fun r => decide (r.phase = .waiting)) then
      { g with wait := none }
    else g

/-- The three conditions of R93 under which a WAITING head of this frog is served: its block set is empty, its POWER_SECTION is
LIVE with SUPPLY_LOST clear, and no THROW order to its CTRL_ADDR is live. -/
def mayServe (s : State) (g : Frog) : Prop :=
  g.blocks = { dewire := false, stall := false, position := false, overflow := false, exit := false, dispatch := false } ∧
  (∃ x, s.sect g.params.powerSection = some x ∧ x.state = .live ∧ x.prot.supplyLost = false) ∧
  ∀ e ∈ s.orders, e.target = g.params.ctrlAddr → e.kind ≠ .throwNormal ∧ e.kind ≠ .throwReverse

/-- The time a timer has left, as the reads carry it (spec/10 section 10.2): 0xFFFFFFFF when stopped, else the ms to its last
deadline, the later periods included. -/
def timeLeft (now : Time) : Timer → List Byte
  | .stopped => [0xFF, 0xFF, 0xFF, 0xFF]
  | .running d n p =>
    let ahead := (d - now).toNat
    be32 (if ahead ≤ 65535 then ahead + n * p else n * p - (now - d).toNat)

/-! ## Masks: the state with what some work may change blanked out -/

/-- The state but for what queuing a notice may change: the notice queue and NOTICE_LOST. -/
def State.besideNotices (s : State) : State := { s with notices := [], noticeLost := false }

/-- The state but for what a frog's work may change: the frogs, the order list, the notice queue and NOTICE_LOST. -/
def State.besideFrogs (s : State) : State := { s.besideNotices with frogs := Vector.replicate 64 none, orders := [] }

/-- The state but for what the work of the skates and the vehicle table may change: a frog's work and the vehicles. -/
def State.besideVehicles (s : State) : State := { s.besideFrogs with vehicles := [] }

/-- The state but for what a section's work may change: a frog's work, the sections and the test units. -/
def State.besideSections (s : State) : State :=
  { s.besideFrogs with sections := Vector.replicate 48 none, units := Vector.replicate 12 TestUnit.starting }

/-- The state but for what processing a frame may change: a section's work and the vehicles. -/
def State.besideWork (s : State) : State := { s.besideSections with vehicles := [] }

/-- The state but for the two ports. -/
def State.besidePorts (s : State) : State :=
  { s with uplink := State.reset.uplink, field := State.reset.field }

/-! ## Frogs, vehicles and order endings: what an event leaves -/

/-- Frog `f`'s head is checked, and a FROG_STATE notice is raised if the check changed the frog (R93, R105). -/
def headChecked (f : FrogIx) (s : State) : State :=
  if (checkHead f s).2 then raiseFrog f (checkHead f s).1 else (checkHead f s).1

/-- Frog `f`, whose record is otherwise `g`, gains a block reason (R86). One it holds changes nothing. A new one raises
FROG_BLOCK with the set it makes, and where the set was empty a WAITING head's registration wait is withdrawn (R93). -/
def blockGained (f : FrogIx) (g : Frog) (r : BlockReason) (s : State) : State :=
  if g.blocks.has r then s.putFrog f (some g)
  else raise (.frogBlock f r true (g.blocks.put r true)) (s.putFrog f (some { g with
    blocks := g.blocks.put r true
    wait := if !g.blocks.blocked && g.queue.head?.any (fun q => decide (q.phase = .waiting)) then none else g.wait }))

/-- An active DEWIRE has left an entry (R87, R121): where it held a frog at which no entry now holds one, and whose untracked
flag is clear, DEWIRE leaves that frog's block set with its FROG_BLOCK notice, and the head is checked. -/
def dewireReviewed (d : Option (Option FrogIx)) (s : State) : State :=
  match d with
  | some (some f) => match s.frog f with
    | some g =>
      if g.blocks.dewire && !g.untracked && s.vehicles.all (fun v => decide (v.dewire ≠ some (some f))) then
        headChecked f (raise (.frogBlock f .dewire false { g.blocks with dewire := false })
          (s.putFrog f (some { g with blocks := { g.blocks with dewire := false } })))
      else s
    | none => s
  | _ => s

/-- A vehicle entry with no active fault. -/
def faultFree (v : Vehicle) : Prop := v.dewire = none ∧ v.insulation = false ∧ v.bounce = false

/-- The vehicle table after an entry for `n`, which it does not hold, is made (R110). Below 128 entries the new one joins; at 128
the fault-free entry of greatest age, the lowest number among equals, leaves for it. -/
def entryMade (n : VehicleNumber) (s : State) (l : List Vehicle) : Prop :=
  let fresh : Vehicle := { number := n, located := none, lastHeard := 0, age := 0, dewire := none, insulation := false
                           bounce := false, faults := [], listLost := false, ageTimer := .stopped, clearedAt := none }
  (s.vehicles.length < 128 → l.Perm (fresh :: s.vehicles)) ∧
  (128 ≤ s.vehicles.length → ∃ e ∈ s.vehicles, faultFree e ∧
    (∀ v ∈ s.vehicles, faultFree v → v.age < e.age ∨ v.age = e.age ∧ e.number ≤ v.number) ∧
    l.Perm (fresh :: s.vehicles.filter fun v => decide (v.number ≠ e.number)))

/-- The table `l` with the entry of `n` heard of now and then changed by `g` (R109, R119, R120, R123). -/
def heardAs (s : State) (n : VehicleNumber) (g : Vehicle → Vehicle) (l : List Vehicle) : List Vehicle :=
  l.map fun v => if v.number = n then
      g { v with
        lastHeard := s.partTime, age := 0, clearedAt := none
        ageTimer := if s.globals.vehAge = 0 then .stopped
          else .running (s.partTime + 1000) (s.globals.vehAge - 1) 1000 }
    else v

/-- An event that needs the entry of `n` leaves the state `r` (R109 to R111): `work` of the table that holds the entry, or of the
one in which it is made; where none can be made, TABLE_FULL is raised and the untracked effect is had. -/
def onEntry (n : VehicleNumber) (s : State) (work : List Vehicle → State) (untracked : State → State) (r : State) : Prop :=
  ((s.vehicle n).isSome = true → r = work s.vehicles) ∧
  (s.vehicle n = none → (s.vehicles.length < 128 ∨ ∃ v ∈ s.vehicles, faultFree v) → ∃ l, entryMade n s l ∧ r = work l) ∧
  (s.vehicle n = none → 128 ≤ s.vehicles.length → (∀ v ∈ s.vehicles, ¬ faultFree v) → r = untracked (raise (.tableFull n) s))

/-- An entry with a fault record appended (R117). -/
def recorded (c : FaultCode) (p : Place) (now : Time) (v : Vehicle) : Vehicle :=
  { v with
    faults := (if v.faults.length < 4 then v.faults else v.faults.tail) ++ [{ code := c, place := p, heard := now }]
    listLost := v.listLost || decide (4 ≤ v.faults.length) }

/-- The entry `e` of the order list has been freed and its owner told (R50, R58, R96, R99, R127, R140 steps 1 and 2), and `t` is the
state before the waits are served. An entry with no owner, an accepted order of a section, and the failure of one its
section does not wait on change nothing else. A failed TEST in TESTING or CLOSE in CLOSING fails the attempt. A THROW's
ending has the frog's head checked, and a failed one takes a THROWING head back to WAITING with POSITION added. -/
def ownerTold (e : Order) (accepted : Bool) (s t : State) : Prop :=
  let freed := s.setOrders (s.orders.erase e)
  (s.sectAt e.target = none → s.frogAt e.target = none → t = freed) ∧
  (∀ i x, s.sectAt e.target = some i → s.sect i = some x →
    let concerned : Prop := accepted = false ∧
      (e.kind = .test ∧ x.state = .energizing .testing ∨ e.kind = .close ∧ x.state = .energizing .closing)
    (¬ concerned → t = freed) ∧
    (concerned → (∀ u, UnitOk s u) → ∃ y, t.sect i = some y ∧
      (y.state, y.lockReason) = afterFailure (if e.kind = .test then .testFail else .closeFail) x ∧
      y.timer = restingTimer s.partTime y.state x.params ∧ y.wait = none ∧ y.attempts = x.attempts ∧
      y.origin = x.origin ∧ y.tripReason = x.tripReason ∧ y.lastReport = x.lastReport ∧ y.prot = x.prot ∧
      y.isolateOnOpen = x.isolateOnOpen ∧ y.params = x.params ∧
      othersKept i freed.orders s t ∧ unitsAfter i .orderFail s t ∧ toldThen i (stateTold i y s) s t ∧
      t.frogs = s.frogs ∧ t.besideSections = s.besideSections)) ∧
  (∀ f g, s.sectAt e.target = none → s.frogAt e.target = some f → s.frog f = some g →
    (e.kind ≠ .throwNormal → e.kind ≠ .throwReverse → t = freed) ∧
    (e.kind = .throwNormal ∨ e.kind = .throwReverse →
      (accepted = true ∨ (∀ r rest, g.queue = r :: rest → r.phase ≠ .throwing) → t = headChecked f freed) ∧
      (∀ r rest, accepted = false → g.queue = r :: rest → r.phase = .throwing →
        t = raiseFrog f (blockGained f { g with
          position := .unknown, throwTimer := .stopped, queue := { r with phase := .waiting } :: rest, wait := none }
          .position freed))))

/-- The entry `e` of the order list has ended, and `r` is the state after the event (R140): the entry freed, the owner told, the
registration waits served. -/
def orderEnded (e : Order) (accepted : Bool) (s r : State) : Prop := ∃ t, ownerTold e accepted s t ∧ r = serveWaits t

end Sys2Proof.Machine
end

