-- ==== Sys2Proof/WellFormed.lean ====
section
/-!
DEFINITION. Which commands can arrive as they are written: a frame's payload is at most 120 bytes (spec/08, section
8.1), a request's arguments are at most 117 bytes (spec/10, section 10.1), and the code of UNKNOWN_REQUEST is not in
the table of section 10.2. Every index and vehicle number is in range by its type. The machine gives every command a
next state, well formed or not (log entry 23).
-/

namespace Sys2Proof

/-- The request codes of the table of spec/10, section 10.2. -/
def requestCodes : List Byte :=
  [0x01, 0x02, 0x03, 0x04, 0x10, 0x11, 0x12, 0x13, 0x14, 0x20, 0x21, 0x22, 0x23, 0x30, 0x31, 0x40, 0x41, 0x42]

/-- A payload fits a frame (spec/08, section 8.1: LEN 0..120). -/
def payloadFits (p : List Byte) : Bool := decide (p.length ≤ 120)

/-- Arguments fit a MGMT payload (spec/10, section 10.1: 0..117 bytes after the code and the tag). -/
def argsFit (a : List Byte) : Bool := decide (a.length ≤ 117)

/-- The command's operands are such as a command of that kind can carry. -/
def Instr.wellFormed : Instr → Bool
  | .sampleFrame _ _ _ p => payloadFits p
  | .silenceTimerExpiry _ => true
  | .breakerReport _ _ _ p => payloadFits p
  | .openTimeoutExpiry _ => true
  | .closeTimeoutExpiry _ => true
  | .testTimeoutExpiry _ => true
  | .deadWaitExpiry _ => true
  | .reclaimExpiry _ => true
  | .testResultFrame _ _ _ p => payloadFits p
  | .orderInterceptSection _ _ _ p => payloadFits p
  | .orderInterceptFrog _ _ _ p => payloadFits p
  | .skateFrame _ _ _ p => payloadFits p
  | .settleExpiry _ => true
  | .skateHoldExpiry _ => true
  | .positionReport _ _ _ p => payloadFits p
  | .throwTimerExpiry _ => true
  | .exitTimerExpiry _ => true
  | .exitTimerFirstPeriodEnd _ => true
  | .vehicleFrame _ _ _ p => payloadFits p
  | .ageTimerExpiry _ => true
  | .ackFrame _ _ _ p => payloadFits p
  | .ackTimerExpiry _ => true
  | .fieldFrameStart => true
  | .uplinkFrameStart => true
  | .frameArrival _ _ => true
  | .unknownRequest _ _ _ c a => argsFit a && !requestCodes.contains c
  | .status _ _ _ a => argsFit a
  | .setMode _ _ _ a => argsFit a
  | .restart _ _ _ a => argsFit a
  | .setGlobals _ _ _ a => argsFit a
  | .loadSection _ _ _ a => argsFit a
  | .unloadSection _ _ _ a => argsFit a
  | .loadFrog _ _ _ a => argsFit a
  | .unloadFrog _ _ _ a => argsFit a
  | .loadFilter _ _ _ a => argsFit a
  | .readSection _ _ _ a => argsFit a
  | .readFrog _ _ _ a => argsFit a
  | .readVehicle _ _ _ a => argsFit a
  | .readOrders _ _ _ a => argsFit a
  | .popFault _ _ _ a => argsFit a
  | .signOffVehicle _ _ _ a => argsFit a
  | .blockFrog _ _ _ a => argsFit a
  | .clearBlock _ _ _ a => argsFit a
  | .flushFrog _ _ _ a => argsFit a
  | .powerOnReset => true
  | .supplyDipReset => true
  | .resetPin => true
  | .resetEnd => true
  | .startUpHoldEnd _ _ => true
  | .reclaimPeriodEnd _ => true
  | .ageTimerPeriodEnd _ => true

end Sys2Proof
end

