-- ==== Sys2Proof/Certificates/Slice0/Obligations.lean ====
section
/-!
DEFINITION. The statements about the model, one definition for each. The terms they use (the laws, the masks, the tables of
spec/02) are in Safety.lean; a log entry <n> is notes/assumptions/<n>.md.
-/

open Sys2Proof Sys2Proof.Machine

/-! ## The machine as a whole -/

/-- One step with a command waiting runs the command at the front of the queue (the model's choice, log entry 1). -/
def Obligations.StepRunsTheFrontCommand : Prop :=
  ∀ (s : State) (c : Instr) (rest : List Instr),
    step { s with pending := c :: rest } = exec c { s with pending := rest }

/-- One step with no command waiting is a millisecond (the model's choice, log entry 2): part time and the vehicles' ages
(R110) advance while the part runs, the start-up hold runs down while it is held. -/
def Obligations.StepWithNoCommandIsAMillisecond : Prop :=
  ∀ s : State, s.pending = [] →
    (s.activity = .running → step s = .next { s with
      partTime := s.partTime + 1, vehicles := s.vehicles.map fun v => { v with age := min (v.age + 1) 4294967295 } }) ∧
    (s.activity = .resetting → step s = .next s) ∧
    (∀ n, s.activity = .holding n → step s = .next { s with activity := .holding (n - 1) })

/-- Every command in every state has a next state and leaves the queue of waiting commands as it is (the model stops on no
command; log entries 1 and 3). -/
def Obligations.EveryCommandHasANextState : Prop :=
  ∀ (c : Instr) (s : State), ∃ t, exec c s = .next t ∧ t.pending = s.pending

/-- The reset state: nothing configured, every table and queue empty, the globals and filter rules at their values after
power-on, part time 0, BYPASS, the relay open (the moment chosen is the model's, log entry 5). -/
def Obligations.ResetState : Prop :=
  (∀ i, State.reset.sect i = none) ∧ (∀ f, State.reset.frog f = none) ∧
  (∀ u, State.reset.unit u = { holder := none, waiting := [], pointer := 0, lastTest := none }) ∧
  (∀ r, State.reset.filter.get r =
    { inUse := false, port := .uplink, kind := none, srcLow := 0x0000, srcHigh := 0xFFFF, hold := false }) ∧
  State.reset.vehicles = [] ∧ State.reset.orders = [] ∧ State.reset.notices = [] ∧ State.reset.replies = [] ∧
  State.reset.uplink.forward = [] ∧ State.reset.field.forward = [] ∧
  State.reset.uplink.seq = 0 ∧ State.reset.field.seq = 0 ∧
  State.reset.uplink.rotation = [.reply, .notice, .forward] ∧ State.reset.field.rotation = [.normalOrder, .forward] ∧
  State.reset.globals =
    { centreAddr := 0x0000, ackTimeout := 40, arbField := .fixed, arbUplink := .fixed, settle := 20, vehAge := 0 } ∧
  State.reset.partTime = 0 ∧ State.reset.mode = .bypass ∧ State.reset.activity = .running

/-- The reset state meets every law of the part that Safety.lean states. -/
def Obligations.ResetMeetsTheLaws : Prop :=
  SectionsOk State.reset ∧ UnitsOk State.reset ∧ FrogsOk State.reset ∧ AddressesOk State.reset ∧
  VehiclesOk State.reset ∧ DewireOk State.reset ∧ OrdersOk State.reset ∧ QueuesOk State.reset ∧
  BypassQuiet State.reset

/-- The law of the order list (R129) is kept by every step: one live entry for a target, at most 32 entries, at most 28 of
them NORMAL. -/
def Obligations.OrderListLawIsKept : Prop :=
  ∀ s t : State, OrdersOk s → step s = .next t → OrdersOk t

/-- The laws of a section (R15, R30, R48, and the ranges of R5 and R11) are kept by every step. -/
def Obligations.SectionLawsAreKept : Prop :=
  ∀ s t : State, SectionsOk s → step s = .next t → SectionsOk t

/-- The law of the test units (R54, R55) is kept by every step: the holder of a unit is the section in TESTING that names
it. -/
def Obligations.TestUnitLawIsKept : Prop :=
  ∀ s t : State, UnitsOk s → step s = .next t → UnitsOk t

/-- The laws of a frog's queue and position (R85, R89) are kept by every step. -/
def Obligations.FrogLawsAreKept : Prop :=
  ∀ s t : State, FrogsOk s → step s = .next t → FrogsOk t

/-- The law of the supervised addresses and of the frogs' sections (R83, R127) is kept by every step. -/
def Obligations.AddressLawIsKept : Prop :=
  ∀ s t : State, AddressesOk s → step s = .next t → AddressesOk t

/-- The laws of the vehicle table (R106, R117) and the law that ties DEWIRE in a frog's block set to the vehicles dewired
there (R87, R121) are kept by every step. -/
def Obligations.VehicleLawsAreKept : Prop :=
  ∀ s t : State, step s = .next t →
    (AddressesOk s → VehiclesOk s → VehiclesOk t) ∧ (DewireOk s → DewireOk t)

/-- The capacities of the notice, reply and forward queues (R150, R158, R163) are kept by every step. -/
def Obligations.QueueCapacitiesAreKept : Prop :=
  ∀ s t : State, QueuesOk s → step s = .next t → QueuesOk t

/-- In BYPASS nothing moves (R28, R66, R84, R106, R128): every step keeps the sections in UNKNOWN, the frogs and capture
records idle, the vehicle table and the order list empty. -/
def Obligations.BypassStaysQuiet : Prop :=
  ∀ s t : State, BypassQuiet s → step s = .next t → BypassQuiet t

/-- No step takes a section from DEAD_WAIT to ENERGIZING while a vehicle in it leaks (the law of R47). -/
def Obligations.NoReclosePastALeak : Prop :=
  ∀ (s t : State) (i : SectionIx) (x y : Sect), s.activity = .running → UnitsOk s → step s = .next t →
    s.sect i = some x → x.state = .deadWait → 0 < s.leakCount i → t.sect i = some y →
    ∀ sub, y.state ≠ .energizing sub

/-- Only SET_MODE, the end of a start-up hold, or bytes on UPLINK that are a MGMT frame to the part carrying SET_MODE change the
operating mode (R165, R175, R177). -/
def Obligations.WhatChangesTheMode : Prop :=
  ∀ (c : Instr) (s t : State), c.wellFormed = true → exec c s = .next t → t.mode ≠ s.mode →
    (∃ src seq tag b, c = .setMode src seq tag [b]) ∨ (∃ straps autorun, c = .startUpHoldEnd straps autorun) ∨
    (∃ bytes f t1 t0 b, c = .frameArrival .uplink bytes ∧ parseFrame bytes = some f ∧ f.kind = 0x61 ∧ f.dest = s.ownAddr ∧
      f.src ≠ 0x0000 ∧ f.payload = [0x02, t1, t0, b])

/-! ## Frames (spec/08) -/

/-- A frame of at most 120 payload bytes with its CHECK is read back from its bytes, and whatever the receive check passes
is the bytes of such a frame (section 8.1, R142, R143). -/
def Obligations.FrameBytesAndReceiveCheckAgree : Prop :=
  (∀ f : Frame, f.payload.length ≤ 120 → f.check = crc (frameBody f.dest f.src f.kind f.seq f.payload) →
    parseFrame f.bytes = some f) ∧
  (∀ (bytes : List Byte) (f : Frame), parseFrame bytes = some f →
    f.bytes = bytes ∧ f.payload.length ≤ 120 ∧ f.check = crc (frameBody f.dest f.src f.kind f.seq f.payload))

/-- A request's arguments carry a section's, a frog's, a filter rule's and the globals' values and are read back as them
(sections 10.3 and 10.4, R166, R169, R170). -/
def Obligations.LoadArgumentsReadBack : Prop :=
  (∀ (i : SectionIx) (p : SectionParams), p.inRanges = true → parseLoadSection (u8 i.val :: p.bytes) = some (i, p)) ∧
  (∀ (f : FrogIx) (p : FrogParams), p.inRanges = true → parseLoadFrog (u8 f.val :: p.bytes) = some (f, p)) ∧
  (∀ (r : RuleIx) (rule : FilterRule), rule.srcLow.toNat ≤ rule.srcHigh.toNat →
    parseLoadFilter ([u8 r.val, if rule.inUse then 0x01 else 0x00
      , match rule.port with
        | .uplink => 0x00
        | .field => 0x01
        | .either => 0x02]
      ++ (match rule.kind with
        | some k => [0x00, k]
        | none => [0xFF, 0xFF])
      ++ beWord rule.srcLow ++ beWord rule.srcHigh ++ [if rule.hold then 0x01 else 0x00]) = some (r, rule)) ∧
  (∀ g : Globals, g.centreAddr.toNat ≤ 0xFFFE → 5 ≤ g.ackTimeout → g.ackTimeout ≤ 1000 → 1 ≤ g.settle → g.settle ≤ 200 →
    (g.vehAge = 0 ∨ (10 ≤ g.vehAge ∧ g.vehAge ≤ 3600)) → parseGlobals g.bytes = some g)

/-- A frame that is shorter than 9 bytes, has a LEN above 120, has a length other than 9 + LEN, or fails its CHECK is
discarded on receipt while the part runs: CHECK_ERR is set on its port and nothing else changes (R143). -/
def Obligations.BadFrameSetsCheckErr : Prop :=
  ∀ (s : State) (p : PortId) (bytes : List Byte), s.activity = .running →
    (bytes.length < 9 ∨ 120 < (bytes.getD 6 0).toNat ∨ bytes.length ≠ 9 + (bytes.getD 6 0).toNat ∨
      bytes.getD (7 + (bytes.getD 6 0).toNat) 0 ++ bytes.getD (8 + (bytes.getD 6 0).toNat) 0
        ≠ crc (bytes.take (7 + (bytes.getD 6 0).toNat))) →
    exec (.frameArrival p bytes) s = .next (s.putPort p { s.port p with checkErr := true })

/-- In BYPASS a received frame is forwarded byte for byte, or dropped with FORWARD_DROP set on the port it arrived on when
the other port's queue holds 32 frames, unless it is a MGMT frame to the part from UPLINK with a valid SRC (R145, R150). -/
def Obligations.BypassForwardsUnaltered : Prop :=
  ∀ (s : State) (p : PortId) (f : Frame) (bytes : List Byte), s.activity = .running → s.mode = .bypass →
    parseFrame bytes = some f → ¬ (p = .uplink ∧ f.kind = 0x61 ∧ f.dest = s.ownAddr ∧ f.src ≠ 0x0000) →
    f.bytes = bytes ∧
    ((s.port (otherPort p)).forward.length < 32 →
      exec (.frameArrival p bytes) s = .next (s.putPort (otherPort p)
        { s.port (otherPort p) with forward := (s.port (otherPort p)).forward ++ [f] })) ∧
    (32 ≤ (s.port (otherPort p)).forward.length →
      exec (.frameArrival p bytes) s = .next (s.putPort p { s.port p with forwardDrop := true }))

/-- What becomes of a received frame (R144 to R150, R161). Bytes that are a frame with its CHECK do what that frame's own command
does: each kind of field frame on FIELD, an ORDER on UPLINK, a MGMT request to the part on UPLINK (what a frame command
stands for is log entry 1). A MGMT frame to the part of LEN below 3 changes nothing. In SUPERVISE a MGMT frame to the part
that arrives on FIELD is discarded (with SRC 0x0000 too, log entry 26). Any other frame that is not taken by the management
unit, not intercepted and not processed is decided by the first filter rule that matches it: HOLD consumes it. FORWARD, or
no match, has it join the other port's forward queue, or dropped with FORWARD_DROP on the port of arrival where that queue
holds 32. A rule matches when it is in use and its port, its kind and its source range take the frame in. (Frames of a
processed kind that do not qualify are in TestResultIgnored.) -/
def Obligations.FilterDecidesForwarding : Prop :=
  -- the bytes of a frame that is processed, intercepted or taken
  (∀ (s : State) (dest src : LineAddr) (seq : Byte) (payload : List Byte), payload.length ≤ 120 →
    (∀ e ∈ [((0x11 : Byte), Instr.sampleFrame dest src seq payload), (0x12, .breakerReport dest src seq payload),
        (0x13, .testResultFrame dest src seq payload), (0x21, .positionReport dest src seq payload),
        (0x22, .skateFrame dest src seq payload), (0x31, .vehicleFrame dest src seq payload),
        (0x41, .ackFrame dest src seq payload)],
      exec (.frameArrival .field (makeFrame dest src e.1 seq payload).bytes) s = exec e.2 s) ∧
    (∀ c ∈ [Instr.orderInterceptSection dest src seq payload, .orderInterceptFrog dest src seq payload],
      exec (.frameArrival .uplink (makeFrame dest src 0x51 seq payload).bytes) s = exec c s)) ∧
  (∀ (s : State) (src : LineAddr) (seq code : Byte) (tag : BitVec 16) (a : List Byte), a.length ≤ 117 →
    ∀ e ∈ [(code, Instr.unknownRequest src seq tag code a), (0x01, .status src seq tag a), (0x02, .setMode src seq tag a),
        (0x03, .restart src seq tag a), (0x04, .setGlobals src seq tag a), (0x10, .loadSection src seq tag a),
        (0x11, .unloadSection src seq tag a), (0x12, .loadFrog src seq tag a), (0x13, .unloadFrog src seq tag a),
        (0x14, .loadFilter src seq tag a), (0x20, .readSection src seq tag a), (0x21, .readFrog src seq tag a),
        (0x22, .readVehicle src seq tag a), (0x23, .readOrders src seq tag a), (0x30, .popFault src seq tag a),
        (0x31, .signOffVehicle src seq tag a), (0x40, .blockFrog src seq tag a), (0x41, .clearBlock src seq tag a),
        (0x42, .flushFrog src seq tag a)],
      exec (.frameArrival .uplink (makeFrame s.ownAddr src 0x61 seq ([e.1] ++ beWord tag ++ a)).bytes) s = exec e.2 s) ∧
  (∀ (s : State) (src : LineAddr) (seq : Byte) (payload : List Byte), s.activity = .running → src ≠ 0x0000 →
    payload.length < 3 →
    exec (.frameArrival .uplink (makeFrame s.ownAddr src 0x61 seq payload).bytes) s = .next s) ∧
  -- the filter in SUPERVISE
  (∀ (s : State) (p : PortId) (f : Frame) (bytes : List Byte), s.supervising → parseFrame bytes = some f →
    let accepts := fun r : RuleIx =>
      let rule := s.filter.get r
      rule.inUse = true ∧
      (rule.port = .either ∨ rule.port = .uplink ∧ p = .uplink ∨ rule.port = .field ∧ p = .field) ∧
      (rule.kind = none ∨ rule.kind = some f.kind) ∧ rule.srcLow.toNat ≤ f.src.toNat ∧ f.src.toNat ≤ rule.srcHigh.toNat
    (p = .field → f.kind = 0x61 → f.dest = s.ownAddr → exec (.frameArrival p bytes) s = .next s) ∧
    (¬ (f.kind = 0x61 ∧ f.dest = s.ownAddr ∧ (p = .field ∨ f.src ≠ 0x0000)) →
      ¬ (p = .uplink ∧ f.kind = 0x51 ∧ f.src ≠ 0x0000 ∧ ((s.sectAt f.dest).isSome = true ∨ (s.frogAt f.dest).isSome = true)) →
      (p = .uplink ∨ f.src = 0x0000 ∨ f.kind ∉ [0x11, 0x12, 0x13, 0x21, 0x22, 0x31, 0x41]) →
      ((∃ r : RuleIx, accepts r ∧ (s.filter.get r).hold = true ∧ ∀ k : RuleIx, k < r → ¬ accepts k) →
        exec (.frameArrival p bytes) s = .next s) ∧
      ((∀ r : RuleIx, accepts r → (s.filter.get r).hold = true → ∃ k : RuleIx, k < r ∧ accepts k) →
        ((s.port (otherPort p)).forward.length < 32 →
          exec (.frameArrival p bytes) s = .next (s.putPort (otherPort p)
            { s.port (otherPort p) with forward := (s.port (otherPort p)).forward ++ [f] })) ∧
        (32 ≤ (s.port (otherPort p)).forward.length →
          exec (.frameArrival p bytes) s = .next (s.putPort p { s.port p with forwardDrop := true })))))

/-- While the bypass relay is closed (a reset or a start-up hold) bytes cross to the other port's line unseen, and no frame
starts (R174; the line is the model's own, log entry 9). -/
def Obligations.RelayCarriesFramesUnseen : Prop :=
  ∀ s : State, s.activity ≠ .running →
    (∀ p bytes, exec (.frameArrival p bytes) s
      = .next (s.putPort (otherPort p) { s.port (otherPort p) with line := bytes })) ∧
    exec .fieldFrameStart s = .next s ∧ exec .uplinkFrameStart s = .next s

/-! ## Samples (spec/01) -/

/-- The thermal step (R14): the truncated quotient, its bounds, its symmetry, the dead band, the manual's table, and that a
sample adds the step of its clamped current to H and a fill step that of I_last, within the range of H (R15). -/
def Obligations.ThermalStepOfACurrent : Prop :=
  ∀ (ic : Nat) (i : Int), 1 ≤ ic → ic ≤ 4000 → CurrentOk i →
    (0 ≤ i * i - ic * ic → thermalStep ic i * 1000 ≤ i * i - ic * ic ∧ i * i - ic * ic < thermalStep ic i * 1000 + 1000) ∧
    (i * i - ic * ic ≤ 0 → i * i - ic * ic ≤ thermalStep ic i * 1000 ∧ thermalStep ic i * 1000 - 1000 < i * i - ic * ic) ∧
    -16000 ≤ thermalStep ic i ∧ thermalStep ic i ≤ 63999 ∧
    thermalStep ic (-i) = thermalStep ic i ∧
    (-1000 < i * i - ic * ic → i * i - ic * ic < 1000 → thermalStep ic i = 0) ∧
    (thermalStep 1200 2000 = 2560 ∧ thermalStep 1200 1201 = 2 ∧ thermalStep 1200 1200 = 0 ∧ thermalStep 1200 1199 = -2 ∧
      thermalStep 1200 0 = -1440 ∧ thermalStep 1200 8000 = 62560) ∧
    (∀ (s : State) (k : SectionIx) (x : Sect) (m : Sample), s.sect k = some x → x.params.ic = ic →
      (max (-8000) (min 8000 m.current) = i → ∃ y, (takeSample k s m).sect k = some y ∧
        (y.prot.h : Int) = min (max ((x.prot.h : Int) + thermalStep ic i) 0) 2147483647) ∧
      (x.prot.iLast = i → ∃ y, (fillStep k s).sect k = some y ∧
        (y.prot.h : Int) = min (max ((x.prot.h : Int) + thermalStep ic i) 0) 2147483647))

/-- A SAMPLE frame from a configured feeder (R4, R6 to R9, R20, R22, R23, R25, R40). A stale one leaves everything to the filter.
Any other one is accepted, whatever its samples, and its work is done in the order of R9: BLIND is cleared; a gap of 1 to 3
frames is filled with 8 steps for each and the window closed, a resync closes the window; the eight samples are taken; the
sequence, I_last and the silence timer are set; a section that is then LIVE is evaluated for supply loss, with the head
checks of its frogs where SUPPLY_LOST changes; and a section resting in COOLING passes to TEST_WAIT once H is below
H_TRIP/2. (`takeSample` and `fillStep` are stated in SampleOfAFrame, `raise` in OrderOfAWrongKindIsRefused, `checkHeadsOf` in
DispatcherThrow.) -/
def Obligations.SampleFrameBySequence : Prop :=
  ∀ (s : State) (i : SectionIx) (x : Sect) (dest src : LineAddr) (seq : Byte) (payload : List Byte),
    s.supervising → UnitsOk s → src ≠ 0x0000 → s.sectAt src = some i → s.sect i = some x → payload.length = 32 →
    let run := exec (.sampleFrame dest src seq payload) s
    let filed := fileFrame .field (makeFrame dest src 0x11 seq payload)
    let gap := (seq - x.prot.expectedSeq).toNat
    let samples : List Sample := (List.range 8).map fun k =>
      { current := (payload.getD (4 * k) 0 ++ payload.getD (4 * k + 1) 0 : BitVec 16).toInt
        voltage := (payload.getD (4 * k + 2) 0 ++ payload.getD (4 * k + 3) 0 : BitVec 16).toNat }
    let clampedAt := fun k => max (-8000) (min 8000 (payload.getD (4 * k) 0 ++ payload.getD (4 * k + 1) 0 : BitVec 16).toInt)
    let volts := samples.map fun m => min m.voltage 1500
    let edit := fun (u : State) (g : Protection → Protection) => u.editSect i fun z => { z with prot := g z.prot }
    let cleared := if x.prot.blind then raise (.sectionFlag i .blind false) (edit s fun p => { p with blind := false }) else s
    let joined := if x.prot.synced = false ∨ 4 ≤ gap
      then edit cleared fun p => { p with window := none, iPrev := clampedAt 0, synced := true }
      else if gap = 0 then cleared
      else edit (Nat.iterate (fillStep i) (8 * gap) cleared) fun p => { p with window := none, iPrev := p.iLast }
    let noted := edit (samples.foldl (takeSample i) joined) fun p => { p with
      expectedSeq := seq + 1, iLast := clampedAt 7
      silence := .running (s.partTime + BitVec.ofNat 32 x.params.silenceTime) 0 0 }
    (x.prot.synced = true → 128 ≤ gap → run = .next (filed s)) ∧
    (x.prot.synced = false ∨ gap < 128 →
      ∃ (z : Sect) (e t : State), noted.sect i = some z ∧ run = .next (filed t) ∧
        z.params = x.params ∧ z.prot.synced = true ∧ z.prot.blind = false ∧ z.prot.iPrev = z.prot.iLast ∧
        -- the supply-loss evaluation
        (let low : Prop := ∀ v ∈ volts, v < x.params.vDead
         let high : Prop := ∀ v ∈ volts, x.params.vDead ≤ v
         let start := z.prot.lowRun.getD s.partTime
         (z.state ≠ .live ∨ (¬ low ∧ ¬ high) → e = noted) ∧
         (z.state = .live → low → ((s.partTime - start).toNat < x.params.supplyLossTime ∨ z.prot.supplyLost = true) →
           e = edit noted fun p => { p with lowRun := some start }) ∧
         (z.state = .live → low → x.params.supplyLossTime ≤ (s.partTime - start).toNat → z.prot.supplyLost = false →
           e = checkHeadsOf i (raise (.sectionFlag i .supplyLost true)
             (edit noted fun p => { p with lowRun := some start, supplyLost := true }))) ∧
         (z.state = .live → high → z.prot.supplyLost = false → e = edit noted fun p => { p with lowRun := none }) ∧
         (z.state = .live → high → z.prot.supplyLost = true →
           e = checkHeadsOf i (raise (.sectionFlag i .supplyLost false)
             (edit noted fun p => { p with lowRun := none, supplyLost := false })))) ∧
        -- the cool-down check
        (z.state ≠ .energizing .cooling ∨ x.params.hTrip / 2 ≤ z.prot.h → t = e) ∧
        (z.state = .energizing .cooling → z.prot.h < x.params.hTrip / 2 →
          joinsUnit i z e t ∧ (∀ j, j ≠ i → t.sect j = e.sect j) ∧ t.frogs = e.frogs ∧ t.besideSections = e.besideSections ∧
            (let q := raise (.sectionState i
                (.energizing (if (e.unit x.params.testUnit).holder = none then .testing else .testWait))
                z.tripReason z.lockReason z.attempts z.prot.h) e
             t.notices = q.notices ∧ t.noticeLost = q.noticeLost)) ∧
        t.besideSections = s.besideSections ∧ (t.sect i).map (fun y => y.prot.expectedSeq) = some (seq + 1) ∧
        (t.sect i).map (fun y => y.prot.iLast) = some (clampedAt 7))

/-- One sample of an accepted frame (R10 to R12, R15 to R17, R19, R24, R25, R35, R51), and one fill step (R7). Off LIVE a sample
moves H and I_prev alone. On LIVE the trip reason is the first met of INST, DELTA and THERMAL. Without a trip only the
window, H and I_prev change; with one the section is TRIPPING with that reason, its OPEN_TIMEOUT running, the window closed,
its TRIP registered, SECTION_STATE raised and then SUPPLY_LOST reported cleared if it was set; a section that was powered
has lost its power, and the heads of its frogs are checked. A fill step moves H alone, or trips with THERMAL. -/
def Obligations.SampleOfAFrame : Prop :=
  ∀ (s : State) (i : SectionIx) (x : Sect) (m : Sample), s.sect i = some x →
    let a : Int := max (-8000) (min 8000 m.current)
    let d : Int := a - x.prot.iPrev
    let heat : Int → Nat := fun c => (min (max ((x.prot.h : Int) + thermalStep x.params.ic c) 0) 2147483647).toNat
    let frozen : Int := min ((x.params.deltaBase : Int) + (min (s.vehicleCount i) x.params.vehCap : Nat) * x.params.vehAllow) 8000
    let opened : Option Window := match x.prot.window with
      | none => if d < x.params.didtStart then none else some { base := x.prot.iPrev, count := 1, threshold := frozen }
      | some w => if d ≤ 0 ∨ x.params.windowMax ≤ w.count then none else some { w with count := w.count + 1 }
    let reason : Option TripReason :=
      if x.prot.blind = false ∧ (x.params.iInst : Int) ≤ |a| then some .inst
      else if x.prot.blind = false ∧ (∃ w, opened = some w ∧ w.threshold ≤ a - w.base) then some .delta
      else if x.params.hTrip ≤ heat a then some .thermal
      else none
    let tripped := fun (t : State) (r : TripReason) (h : Nat) (prev : Int) =>
      let q := raise (.sectionState i .tripping (some r) x.lockReason x.attempts h) s
      let q' := if x.prot.supplyLost then raise (.sectionFlag i .supplyLost false) q else q
      (∃ y, t.sect i = some y ∧ y.state = .tripping ∧ y.tripReason = some r ∧
        y.isolateOnOpen = false ∧ y.timer = .running (s.partTime + BitVec.ofNat 32 x.params.openTimeout) 0 0 ∧
        y.prot = { x.prot with h := h, iPrev := prev, window := none, lowRun := none, supplyLost := false } ∧
        y.attempts = x.attempts ∧ y.origin = x.origin ∧ y.lockReason = x.lockReason ∧ y.lastReport = x.lastReport ∧
        y.params = x.params ∧ y.wait = (asked s.orders x.params.feederAddr .trip).2) ∧
      t.orders = (asked s.orders x.params.feederAddr .trip).1 ∧
      (∀ j, j ≠ i → t.sect j = s.sect j) ∧ t.units = s.units ∧
      (x.prot.supplyLost = false → waitsWithdrawn i s t) ∧ (x.prot.supplyLost = true → t.frogs = s.frogs) ∧
      t.notices = q'.notices ∧ t.noticeLost = q'.noticeLost ∧ t.besideSections = s.besideSections
    (x.state ≠ .live → takeSample i s m = s.putSect i (some { x with prot := { x.prot with h := heat a, iPrev := a } })) ∧
    (x.state = .live → reason = none → takeSample i s m = s.putSect i (some { x with prot := { x.prot with
        window := if x.prot.blind then x.prot.window else opened, h := heat a, iPrev := a } })) ∧
    (∀ r, x.state = .live → reason = some r → tripped (takeSample i s m) r (heat a) a) ∧
    (x.state ≠ .live ∨ heat x.prot.iLast < x.params.hTrip →
      fillStep i s = s.putSect i (some { x with prot := { x.prot with h := heat x.prot.iLast } })) ∧
    (x.state = .live → x.params.hTrip ≤ heat x.prot.iLast →
      tripped (fillStep i s) .thermal (heat x.prot.iLast) x.prot.iPrev)

/-- The expiry of a section's silence timer (R21, R25, R44, R45, R56, R57): BLIND set, the sequence unsynchronised, the window and
the low run ended, the timer stopped; an attempt in progress fails, leaving its test unit, with SECTION_STATE before the BLIND
notice (log entry 12), and in any other state nothing else changes but the BLIND notice. SUPPLY_LOST is kept and the section
neither enters nor leaves LIVE, so its powered condition does not change and no frog is checked. A timer that is not due changes nothing (log entry 3). -/
def Obligations.SilenceTimerExpiry : Prop :=
  ∀ (s : State) (i : SectionIx) (x : Sect), s.activity = .running → UnitsOk s → s.sect i = some x →
    (x.prot.silence.expired s.partTime = false → exec (.silenceTimerExpiry i) s = .next s) ∧
    (x.prot.silence.expired s.partTime = true →
      let p : Protection := { x.prot with blind := true, synced := false, window := none, lowRun := none, silence := .stopped }
      ((∀ sub, x.state ≠ .energizing sub) →
        exec (.silenceTimerExpiry i) s = .next (
          if x.prot.blind then s.putSect i (some { x with prot := p })
          else raise (.sectionFlag i .blind true) (s.putSect i (some { x with prot := p })))) ∧
      (∀ sub, x.state = .energizing sub →
        ∃ t y, exec (.silenceTimerExpiry i) s = .next t ∧ t.sect i = some y ∧ y.prot = p ∧
          (y.state, y.lockReason) = afterFailure .blind x ∧ y.timer = restingTimer s.partTime y.state x.params ∧
          y.wait = none ∧ y.attempts = x.attempts ∧ y.origin = x.origin ∧ y.tripReason = x.tripReason ∧
          y.params = x.params ∧ y.lastReport = x.lastReport ∧ y.isolateOnOpen = x.isolateOnOpen ∧
          othersKept i s.orders s t ∧ unitsAfter i .abandoned s t ∧
          toldThen i (if x.prot.blind then stateTold i y s else raise (.sectionFlag i .blind true) (stateTold i y s)) s t ∧
          t.frogs = s.frogs ∧ t.powered i = s.powered i ∧ t.besideSections = s.besideSections))

/-! ## Breakers, results, requests and timers of a section (spec/02, spec/03) -/

/-- A well-formed BREAKER report from a configured feeder (R25, R30 to R34, R36, R38, R43, R56, R57): it is recorded, and the
section goes where the table of spec/02 section 2.3 sends it, with the attempt count, the reasons, the flag and the timer of
the rules; a report that is only recorded changes nothing but the record. A test unit is left as the rules say. A loss of power has the registration waits of the frogs it powered
withdrawn, and a section that becomes powered has the heads of its frogs checked (`checkHeadsOf` is stated in
DispatcherThrow; the order of that check and of a grant in one event is free, log entry 11). A change of state, and every
FAULT, raises SECTION_STATE, then SUPPLY_LOST cleared on leaving LIVE or LOCAL_CLOSE on a local close (R32, R51), then the
notices of a section granted and of the frogs; a report that is only recorded raises none. -/
def Obligations.BreakerReportByState : Prop :=
  ∀ (s : State) (i : SectionIx) (x : Sect) (dest src : LineAddr) (seq code : Byte) (b : BreakerState),
    s.supervising → UnitsOk s → src ≠ 0x0000 → s.sectAt src = some i → s.sect i = some x →
    (code = 0x00 ∧ b = .opened ∨ code = 0x01 ∧ b = .closed ∨ code = 0x02 ∧ b = .fault) →
    ∃ t y, exec (.breakerReport dest src seq [code]) s
        = .next (fileFrame .field (makeFrame dest src 0x12 seq [code]) t) ∧ t.sect i = some y ∧
      y.lastReport = some b ∧ y.state = breakerNext b x ∧
      y.attempts = (if y.state = .live ∧ x.state ≠ .live ∧ x.state ≠ .energizing .closing then 0 else x.attempts) ∧
      y.tripReason = (if x.state = .live ∧ b = .opened then some .external
        else if x.state = .live ∧ b = .fault then some .breakerFault else x.tripReason) ∧
      y.lockReason = (if b = .fault then some .breakerFault
        else if y.state = .lockedOut ∧ x.state ≠ .lockedOut then some .exhausted else x.lockReason) ∧
      y.isolateOnOpen = (if b = .fault ∨ (b = .opened ∧ x.state = .tripping) then false else x.isolateOnOpen) ∧
      y.origin = x.origin ∧ y.params = x.params ∧
      (y.state = x.state → b ≠ .fault → y.timer = x.timer ∧ y.wait = x.wait) ∧
      (y.state ≠ x.state ∨ b = .fault → y.timer = restingTimer s.partTime y.state x.params ∧ y.wait = none) ∧
      y.prot = (if x.state = .live ∧ y.state ≠ .live then
        { x.prot with window := none, lowRun := none, supplyLost := false } else x.prot) ∧
      unitsAfter i .abandoned s t ∧
      -- the other sections, the order list and the notices
      let told := if x.state = .live ∧ y.state ≠ .live ∧ x.prot.supplyLost = true then
          raise (.sectionFlag i .supplyLost false) (stateTold i y s)
        else if b = .closed ∧ x.state ∈ [.isolated, .lockedOut, .deadWait, .energizing .cooling, .energizing .testWait,
            .energizing .testing] then raise (.sectionFlag i .localClose true) (stateTold i y s)
        else stateTold i y s
      let powerCame : Prop := x.state ≠ .live ∧ y.state = .live ∧ x.prot.supplyLost = false
      (y.state = x.state → b ≠ .fault → t.notices = s.notices ∧ t.noticeLost = s.noticeLost) ∧
      (y.state ≠ x.state ∨ b = .fault → ¬ powerCame → toldThen i told s t) ∧
      (¬ powerCame → othersKept i s.orders s t) ∧
      -- the frogs
      (x.state = .live → y.state ≠ .live → x.prot.supplyLost = false → waitsWithdrawn i s t) ∧
      ((x.state = .live ↔ y.state = .live) ∨ x.prot.supplyLost = true → t.frogs = s.frogs) ∧
      (powerCame → ∃ m : State, m.sect i = some y ∧ m.frogs = s.frogs ∧ m.partTime = s.partTime ∧ m.globals = s.globals ∧
        t.frogs = (checkHeadsOf i m).frogs ∧
        -- a grant before the heads, or after them
        ((othersKept i s.orders s m ∧ toldThen i told s m ∧ (∀ j, t.sect j = m.sect j) ∧
            t.orders = (checkHeadsOf i m).orders ∧ t.notices = (checkHeadsOf i m).notices ∧
            t.noticeLost = (checkHeadsOf i m).noticeLost) ∨
          (m.orders = s.orders ∧ m.notices = told.notices ∧ m.noticeLost = told.noticeLost ∧
            othersKept i (checkHeadsOf i m).orders s t ∧ toldThen i (checkHeadsOf i m) s t))) ∧
      t.besideSections = s.besideSections

/-- A TEST_RESULT taken while its section is TESTING (R42, R45, R55, R57, R60, R63): at R_MIN or more the section goes to CLOSING
with its CLOSE registered, below it the attempt fails. Either way the unit is left with its last test recorded, FREE or
granted to the first waiting section in cyclic index order from the rotation pointer, which enters TESTING. SECTION_STATE is
raised for the section and then for the one granted (R51). -/
def Obligations.TestResultInTesting : Prop :=
  ∀ (s : State) (i : SectionIx) (x : Sect) (dest src : LineAddr) (seq hi lo : Byte),
    s.supervising → UnitsOk s → src ≠ 0x0000 → s.sectAt src = some i → s.sect i = some x →
    x.state = .energizing .testing →
    ∃ t y, exec (.testResultFrame dest src seq [hi, lo]) s
        = .next (fileFrame .field (makeFrame dest src 0x13 seq [hi, lo]) t) ∧ t.sect i = some y ∧
      (x.params.rMin ≤ (hi ++ lo : BitVec 16).toNat →
        y.state = .energizing .closing ∧ y.lockReason = x.lockReason ∧
        y.timer = .running (s.partTime + BitVec.ofNat 32 x.params.closeTimeout) 0 0 ∧
        y.wait = (asked s.orders x.params.feederAddr .close).2 ∧
        othersKept i (asked s.orders x.params.feederAddr .close).1 s t ∧ unitsAfter i (.pass (hi ++ lo)) s t) ∧
      ((hi ++ lo : BitVec 16).toNat < x.params.rMin →
        (y.state, y.lockReason) = afterFailure .testFail x ∧ y.timer = restingTimer s.partTime y.state x.params ∧
        y.wait = none ∧ othersKept i s.orders s t ∧ unitsAfter i (.fail (hi ++ lo)) s t) ∧
      y.attempts = x.attempts ∧ y.origin = x.origin ∧ y.tripReason = x.tripReason ∧ y.lastReport = x.lastReport ∧
      y.isolateOnOpen = x.isolateOnOpen ∧ y.prot = x.prot ∧ y.params = x.params ∧
      toldThen i (stateTold i y s) s t ∧ t.frogs = s.frogs ∧ t.besideSections = s.besideSections

/-- A TEST_RESULT taken while its section is in any other state, or whose source is no configured feeder, is ignored: it is
left to the filter and nothing else changes (R62). And a frame of a kind the part processes that does not qualify is left to
the filter alone (R4, R30, R59, R67, R97, R107, R108, R137, R144): SRC 0x0000, a source that is no such device or, for an ACK,
the target of no SENT entry, a wrong LEN, a code outside its codes, a digit above 9, an index that names nothing
configured. -/
def Obligations.TestResultIgnored : Prop :=
  (∀ (s : State) (dest src : LineAddr) (seq hi lo : Byte), s.supervising →
    (s.sectAt src = none ∨ ∃ i x, s.sectAt src = some i ∧ s.sect i = some x ∧ x.state ≠ .energizing .testing) →
    exec (.testResultFrame dest src seq [hi, lo]) s
      = .next (fileFrame .field (makeFrame dest src 0x13 seq [hi, lo]) s)) ∧
  (∀ (s : State) (dest src : LineAddr) (seq : Byte) (payload : List Byte), s.supervising → payload.length ≤ 120 →
    let left := fun (c : Instr) (kind : Byte) => exec c s = .next (fileFrame .field (makeFrame dest src kind seq payload) s)
    let byte := fun k : Nat => payload.getD k 0x00
    let badDigit := fun k : Nat => 9 < (byte k).toNat / 16 ∨ 9 < (byte k).toNat % 16
    (src = 0x0000 ∨ s.sectAt src = none ∨ payload.length ≠ 32 → left (.sampleFrame dest src seq payload) 0x11) ∧
    (src = 0x0000 ∨ s.sectAt src = none ∨ payload ∉ [[0x00], [0x01], [0x02]] →
      left (.breakerReport dest src seq payload) 0x12) ∧
    (src = 0x0000 ∨ s.sectAt src = none ∨ payload.length ≠ 2 → left (.testResultFrame dest src seq payload) 0x13) ∧
    (src = 0x0000 ∨ s.frogAt src = none ∨ payload ∉ [[0x00], [0x01], [0x02], [0x03]] →
      left (.positionReport dest src seq payload) 0x21) ∧
    (src = 0x0000 ∨ s.frogAt src = none ∨ byte 0 = 0x00 ∨ 12 < (byte 0).toNat ∨
        payload.length ≠ 1 + 5 * (byte 0).toNat ∨
        (∃ k < (byte 0).toNat, byte (1 + 5 * k) ∉ [(0x01 : Byte), 0x02, 0x03, 0x04, 0x05, 0x06, 0x07] ∨
          badDigit (4 + 5 * k) ∨ badDigit (5 + 5 * k)) →
      left (.skateFrame dest src seq payload) 0x22) ∧
    (src = 0x0000 ∨ payload.length ≠ 6 ∨ badDigit 0 ∨ badDigit 1 ∨ byte 2 ∉ [(0x01 : Byte), 0x02, 0x03, 0x04, 0x05] ∨
        (byte 3 ≠ 0xFF ∧ ∀ i : SectionIx, byte 3 = BitVec.ofNat 8 i.val → s.sect i = none) ∨
        (byte 4 ≠ 0xFF ∧ ∀ f : FrogIx, byte 4 = BitVec.ofNat 8 f.val → s.frog f = none) ∨
        byte 5 ∉ [(0x01 : Byte), 0x02, 0x03, 0x04] →
      left (.vehicleFrame dest src seq payload) 0x31) ∧
    (src = 0x0000 ∨ payload.length ≠ 2 ∨ byte 1 ∉ [(0x00 : Byte), 0x01] ∨
        (∀ e ∈ s.orders, e.target = src → e.state = .queued) →
      left (.ackFrame dest src seq payload) 0x41))

/-- An energize request (R39, R40, R42, R54, R55, R147): an ORDER of kind CLOSE on UPLINK to a configured feeder. A request that
starts an attempt leaves the section COOLING, or in TEST_WAIT in its unit's waiting set, or TESTING with the unit granted. -/
def Obligations.EnergizeRequestByState : Prop :=
  ∀ (s : State) (i : SectionIx) (x : Sect) (dest src : LineAddr) (seq : Byte),
    s.supervising → UnitsOk s → src ≠ 0x0000 → s.sectAt dest = some i → s.sect i = some x →
    let run := exec (.orderInterceptSection dest src seq [0x03]) s
    let lockedOut := fun r : LockReason => raise (.sectionState i .lockedOut x.tripReason (some r) x.attempts x.prot.h)
      (s.putSect i (some { x with state := .lockedOut, lockReason := some r, timer := .stopped, wait := none }))
    (x.state = .unknown ∨ x.state = .tripping ∨ x.state = .isolating →
      run = .next (raise (.orderRefused x.params.feederAddr 0x03 .state) s)) ∧
    ((x.state = .live ∨ ∃ sub, x.state = .energizing sub) → run = .next s) ∧
    (x.state = .isolated ∨ x.state = .lockedOut ∨ x.state = .deadWait →
      (x.prot.blind = true → run = .next (lockedOut .blind)) ∧
      (x.prot.blind = false → x.state = .deadWait → 0 < s.leakCount i → run = .next (lockedOut .dispatchFail)) ∧
      (x.prot.blind = false → (x.state = .deadWait → s.leakCount i = 0) →
        (x.params.hTrip / 2 ≤ x.prot.h →
          run = .next (raise (.sectionState i (.energizing .cooling) x.tripReason x.lockReason 0 x.prot.h)
            (s.putSect i (some { x with
              state := .energizing .cooling, origin := some .dispatch, attempts := 0, timer := .stopped, wait := none })))) ∧
        (x.prot.h < x.params.hTrip / 2 →
          ∃ t, run = .next t ∧ joinsUnit i { x with origin := some .dispatch, attempts := 0 } s t ∧
            (∀ j, j ≠ i → t.sect j = s.sect j) ∧ t.frogs = s.frogs ∧
            (let q := raise (.sectionState i
                (.energizing (if (s.unit x.params.testUnit).holder = none then .testing else .testWait))
                x.tripReason x.lockReason 0 x.prot.h) s
             t.notices = q.notices ∧ t.noticeLost = q.noticeLost) ∧
            t.besideSections = s.besideSections)))

/-- An isolate request (R25, R37, R51, R56, R57, R147): an ORDER of kind OPEN or TRIP on UPLINK to a configured feeder. A change
of state raises SECTION_STATE, then SUPPLY_LOST cleared if it was set on leaving LIVE, then the SECTION_STATE of a section
granted. -/
def Obligations.IsolateRequestByState : Prop :=
  ∀ (s : State) (i : SectionIx) (x : Sect) (dest src : LineAddr) (seq code : Byte),
    s.supervising → UnitsOk s → src ≠ 0x0000 → s.sectAt dest = some i → s.sect i = some x →
    (code = 0x01 ∨ code = 0x02) →
    (x.state = .unknown → exec (.orderInterceptSection dest src seq [code]) s
        = .next (raise (.orderRefused x.params.feederAddr code .state) s)) ∧
    (x.state = .isolating ∨ x.state = .isolated → exec (.orderInterceptSection dest src seq [code]) s = .next s) ∧
    (x.state = .tripping → exec (.orderInterceptSection dest src seq [code]) s
        = .next (s.putSect i (some { x with isolateOnOpen := true }))) ∧
    (x.state = .live ∨ x.state = .deadWait ∨ x.state = .lockedOut ∨ (∃ sub, x.state = .energizing sub) →
      ∃ t y, exec (.orderInterceptSection dest src seq [code]) s = .next t ∧ t.sect i = some y ∧
        (x.lastReport = some .opened ∧ x.state ≠ .energizing .testing ∧ x.state ≠ .energizing .closing →
          y.state = .isolated ∧ y.timer = .stopped ∧ y.wait = none ∧ othersKept i s.orders s t) ∧
        (x.lastReport ≠ some .opened ∨ x.state = .energizing .testing ∨ x.state = .energizing .closing →
          y.state = .isolating ∧ y.timer = .running (s.partTime + BitVec.ofNat 32 x.params.openTimeout) 0 0 ∧
          y.wait = (asked s.orders x.params.feederAddr .opening).2 ∧
          othersKept i (asked s.orders x.params.feederAddr .opening).1 s t) ∧
        y.attempts = x.attempts ∧ y.origin = x.origin ∧ y.tripReason = x.tripReason ∧ y.lockReason = x.lockReason ∧
        y.lastReport = x.lastReport ∧ y.isolateOnOpen = x.isolateOnOpen ∧ y.params = x.params ∧
        y.prot = (if x.state = .live then { x.prot with window := none, lowRun := none, supplyLost := false } else x.prot) ∧
        unitsAfter i .abandoned s t ∧
        toldThen i (if x.state = .live ∧ x.prot.supplyLost = true then
          raise (.sectionFlag i .supplyLost false) (stateTold i y s) else stateTold i y s) s t ∧
        (x.state = .live → x.prot.supplyLost = false → waitsWithdrawn i s t) ∧
        (x.state ≠ .live ∨ x.prot.supplyLost = true → t.frogs = s.frogs) ∧
        t.besideSections = s.besideSections)

/-- The raising of a notice (R157, R158): dropped without NOTICE_LOST while CENTRE_ADDR is 0x0000, the tail of the queue below 24,
NOTICE_LOST set and the queue kept at 24. What FROG_STATE carries (R105). And an ORDER intercepted for a device whose kind it
does not fit, or malformed: it is refused with KIND, the kind field holding the first payload byte or 0x00, and changes
nothing else (R147, R148). -/
def Obligations.OrderOfAWrongKindIsRefused : Prop :=
  (∀ (s : State) (b : NoticeBody),
    (s.globals.centreAddr = 0x0000 → raise b s = s) ∧
    (s.globals.centreAddr ≠ 0x0000 → s.notices.length < 24 →
      raise b s = { s with notices := s.notices ++ [{ dest := s.globals.centreAddr, body := b }] }) ∧
    (s.globals.centreAddr ≠ 0x0000 → 24 ≤ s.notices.length → raise b s = { s with noticeLost := true })) ∧
  (∀ (s : State) (f : FrogIx) (g : Frog), s.frog f = some g →
    (g.queue = [] → raiseFrog f s = raise (.frogState f g.position none 0) s) ∧
    (∀ r rest, g.queue = r :: rest → raiseFrog f s = raise (.frogState f g.position
      (some (match r.kind with
        | .passage _ _ => .passage
        | .dispatch => .dispatch
        | .returning => .returning, r.target, r.phase)) (rest.length + 1)) s)) ∧
  (∀ (s : State) (dest src : LineAddr) (seq : Byte) (payload : List Byte),
    s.supervising → src ≠ 0x0000 → payload.length ≤ 120 →
    (∀ i x, s.sectAt dest = some i → s.sect i = some x → payload ∉ [[0x01], [0x02], [0x03]] →
      exec (.orderInterceptSection dest src seq payload) s
        = .next (raise (.orderRefused x.params.feederAddr (payload.headD 0x00) .kind) s)) ∧
    (∀ f g, s.sectAt dest = none → s.frogAt dest = some f → s.frog f = some g → payload ∉ [[0x05], [0x06]] →
      exec (.orderInterceptFrog dest src seq payload) s
        = .next (raise (.orderRefused g.params.ctrlAddr (payload.headD 0x00) .kind) s)))

/-- The expiries of OPEN_TIMEOUT, CLOSE_TIMEOUT and TEST_TIMEOUT in their states (R36, R38, R42, R43, R45, R55, R57, R61, R63); in
any other state, or with the timer not due, nothing changes (log entry 3). TEST_TIMEOUT's leaves the test unit FREE or
granted to the next waiting section. -/
def Obligations.StateTimerExpiries : Prop :=
  ∀ (s : State) (i : SectionIx) (x : Sect), s.activity = .running → UnitsOk s → s.sect i = some x →
    let entered := fun y : Sect =>
      raise (.sectionState i y.state y.tripReason y.lockReason y.attempts y.prot.h) (s.putSect i (some y))
    let failed := fun cause : LockReason => { x with
      state := (afterFailure cause x).1, lockReason := (afterFailure cause x).2, wait := none
      timer := restingTimer s.partTime (afterFailure cause x).1 x.params }
    (x.timer.expired s.partTime = true → (x.state = .tripping ∨ x.state = .isolating) →
      exec (.openTimeoutExpiry i) s = .next (entered { x with
        state := .lockedOut, lockReason := some .breakerFail, isolateOnOpen := false, timer := .stopped, wait := none })) ∧
    (x.timer.expired s.partTime = true → x.state = .energizing .closing →
      exec (.closeTimeoutExpiry i) s = .next (entered (failed .closeFail))) ∧
    (x.timer.expired s.partTime = true → x.state = .energizing .testing →
      ∃ t, exec (.testTimeoutExpiry i) s = .next t ∧ t.sect i = some (failed .testFail) ∧
        othersKept i s.orders s t ∧ unitsAfter i .timeout s t ∧ toldThen i (stateTold i (failed .testFail) s) s t ∧
        t.frogs = s.frogs ∧ t.besideSections = s.besideSections) ∧
    (x.timer.expired s.partTime = false ∨ (x.state ≠ .tripping ∧ x.state ≠ .isolating) →
      exec (.openTimeoutExpiry i) s = .next s) ∧
    (x.timer.expired s.partTime = false ∨ x.state ≠ .energizing .closing →
      exec (.closeTimeoutExpiry i) s = .next s) ∧
    (x.timer.expired s.partTime = false ∨ x.state ≠ .energizing .testing →
      exec (.testTimeoutExpiry i) s = .next s)

/-- The decision at the expiry of the dead wait (R40, R42, R47, R54, R55): BLIND, then the leak count, then the attempt count,
then an automatic attempt, which leaves the section COOLING, or in TEST_WAIT in its unit's waiting set, or TESTING with the
unit granted. In any other state, or with the timer not due, nothing changes (log entry 3). -/
def Obligations.DeadWaitExpiry : Prop :=
  ∀ (s : State) (i : SectionIx) (x : Sect), s.activity = .running → UnitsOk s → s.sect i = some x →
    let run := exec (.deadWaitExpiry i) s
    (x.state ≠ .deadWait ∨ x.timer.expired s.partTime = false → run = .next s) ∧
    (x.state = .deadWait → x.timer.expired s.partTime = true →
    let lockedOut := fun r : LockReason => raise (.sectionState i .lockedOut x.tripReason (some r) x.attempts x.prot.h)
      (s.putSect i (some { x with state := .lockedOut, lockReason := some r, timer := .stopped, wait := none }))
    (x.prot.blind = true → run = .next (lockedOut .blind)) ∧
    (x.prot.blind = false → 0 < s.leakCount i → run = .next (lockedOut .leak)) ∧
    (x.prot.blind = false → s.leakCount i = 0 → x.params.recloseMax ≤ x.attempts → run = .next (lockedOut .exhausted)) ∧
    (x.prot.blind = false → s.leakCount i = 0 → x.attempts < x.params.recloseMax →
      (x.params.hTrip / 2 ≤ x.prot.h →
        run = .next (raise (.sectionState i (.energizing .cooling) x.tripReason x.lockReason (x.attempts + 1) x.prot.h)
          (s.putSect i (some { x with
            state := .energizing .cooling, origin := some .auto, attempts := x.attempts + 1, timer := .stopped
            wait := none })))) ∧
      (x.prot.h < x.params.hTrip / 2 →
        ∃ t, run = .next t ∧ joinsUnit i { x with origin := some .auto, attempts := x.attempts + 1 } s t ∧
          (∀ j, j ≠ i → t.sect j = s.sect j) ∧ t.frogs = s.frogs ∧
          (let q := raise (.sectionState i
              (.energizing (if (s.unit x.params.testUnit).holder = none then .testing else .testWait))
              x.tripReason x.lockReason (x.attempts + 1) x.prot.h) s
           t.notices = q.notices ∧ t.noticeLost = q.noticeLost) ∧
          t.besideSections = s.besideSections)))

/-! ## Skates and frogs (spec/04, spec/05) -/

/-- The head check of a frog (R93 to R95, R100) and the check of the frogs a section powers (R25); and a dispatcher throw (R91, R93
to R95), an ORDER of kind THROW_NORMAL or THROW_REVERSE on UPLINK to a configured frog, which at an empty queue is checked at
once. A THROW that finds no room, or a live entry to CTRL_ADDR in its way, leaves the head WAITING with a registration
wait. FROG_STATE follows the changes made, also where they cancel (log entry 13). -/
def Obligations.DispatcherThrow : Prop :=
  -- the head check: the state after it, and whether it changed the position or the head
  (∀ (s : State) (f : FrogIx) (g : Frog), s.frog f = some g →
    (g.queue = [] → checkHead f s = (s, false)) ∧
    (∀ r rest, g.queue = r :: rest →
      (r.phase ≠ .waiting → checkHead f s = (s, false)) ∧
      (r.phase = .waiting → ¬ mayServe s g → checkHead f s = (s.putFrog f (some { g with wait := none }), false)) ∧
      (∀ tag w, r.phase = .waiting → mayServe s g → g.position = .at r.target → r.kind = .passage tag w →
        checkHead f s = (s.putFrog f (some { g with
          queue := { r with phase := .set } :: rest, wait := none
          exitTimer := .running (s.partTime + BitVec.ofNat 32 (g.params.exitTimeout / 2)) 1
            (g.params.exitTimeout - g.params.exitTimeout / 2) }), true)) ∧
      (r.phase = .waiting → mayServe s g → g.position = .at r.target → (r.kind = .dispatch ∨ r.kind = .returning) →
        checkHead f s = ((checkHead f (s.putFrog f (some { g with queue := rest, wait := none }))).1, true)) ∧
      (r.phase = .waiting → mayServe s g → g.position ≠ .at r.target →
        ((∀ e ∈ s.orders, e.target ≠ g.params.ctrlAddr) → s.orders.length ≤ 27 →
          checkHead f s = ((s.setOrders (s.orders ++
              [{ target := g.params.ctrlAddr, kind := throwKind r.target, state := .queued }])).putFrog f (some { g with
            queue := { r with phase := .throwing } :: rest, position := .moving r.target, wait := none
            throwTimer := .running (s.partTime + BitVec.ofNat 32 g.params.throwTimeout) 0 0 }), true)) ∧
        ((∃ e ∈ s.orders, e.target = g.params.ctrlAddr) ∨ 28 ≤ s.orders.length →
          checkHead f s = (s.putFrog f (some { g with wait := some r.target }), false))))) ∧
  (∀ (s : State) (i : SectionIx), checkHeadsOf i s = (List.finRange 64).foldl (fun t f =>
    if (s.frog f).any (fun g => decide (g.params.powerSection = i)) then headChecked f t else t) s) ∧
  -- the dispatcher throw
  (∀ (s : State) (f : FrogIx) (g : Frog) (dest src : LineAddr) (seq code : Byte) (target : Route),
    s.supervising → src ≠ 0x0000 → s.sectAt dest = none → s.frogAt dest = some f → s.frog f = some g →
    (code = 0x05 ∧ target = .normal ∨ code = 0x06 ∧ target = .reverse) →
    let run := exec (.orderInterceptFrog dest src seq [code]) s
    let r : Request := { kind := .dispatch, target, phase := .waiting }
    (4 ≤ g.queue.length → run = .next (raise (.orderRefused g.params.ctrlAddr code .full) s)) ∧
    (g.queue ≠ [] → g.queue.length < 4 → run = .next (s.putFrog f (some { g with queue := g.queue ++ [r] }))) ∧
    (g.queue = [] → run = .next (raiseFrog f (checkHead f (s.putFrog f (some { g with queue := [r] }))).1)) ∧
    (g.queue = [] → ¬ mayServe s g →
      run = .next (raiseFrog f (s.putFrog f (some { g with queue := [r], wait := none })))) ∧
    (g.queue = [] → mayServe s g → g.position = .at target →
      run = .next (raiseFrog f (s.putFrog f (some { g with queue := [], wait := none })))) ∧
    (g.queue = [] → mayServe s g → g.position ≠ .at target →
      ((∀ e ∈ s.orders, e.target ≠ g.params.ctrlAddr) → s.orders.length ≤ 27 →
        run = .next (raiseFrog f ((s.setOrders (s.orders ++
            [{ target := g.params.ctrlAddr, kind := throwKind target, state := .queued }])).putFrog f (some { g with
          queue := [{ r with phase := .throwing }], position := .moving target, wait := none
          throwTimer := .running (s.partTime + BitVec.ofNat 32 g.params.throwTimeout) 0 0 })))) ∧
      ((∃ e ∈ s.orders, e.target = g.params.ctrlAddr) ∨ 28 ≤ s.orders.length →
        run = .next (raiseFrog f (s.putFrog f (some { g with queue := [r], wait := some target }))))))

/-- A processed SKATE frame takes its events one after another, each on the record as the one before it left it (R68); and the
shoe and draw edges, the tag and the exit rise (R69 to R75), each in every phase: what becomes of the capture record, and
that nothing else changes. A rise in SETTLING beyond BOUNCE_GAP concludes the contact and then opens a new one (R70;
`conclude` is stated in SkateTimerExpiries). The EXIT_SHOE_FALL is in ExitShoeFall. -/
def Obligations.SkateEdges : Prop :=
  -- the events of a frame
  (∀ (s : State) (f : FrogIx) (dest src : LineAddr) (seq : Byte) (events : List SkateEvent),
    s.supervising → src ≠ 0x0000 → s.frogAt src = some f → 1 ≤ events.length → events.length ≤ 12 →
    let payload : List Byte := u8 events.length :: events.flatMap fun e =>
      [match e.edge with
        | .entryRise => 0x01
        | .entryFall => 0x02
        | .drawRise => 0x03
        | .drawFall => 0x04
        | .exitRise => 0x05
        | .exitFall => 0x06
        | .tag => (0x07 : Byte)] ++ beWord e.tick ++ bcdBytes e.number
    exec (.skateFrame dest src seq payload) s
      = .next (fileFrame .field (makeFrame dest src 0x22 seq payload) (events.foldl (skateEvent f) s))) ∧
  -- one event
  (∀ (s : State) (f : FrogIx) (g : Frog) (tick : Tick) (n : VehicleNumber), s.frog f = some g →
    let c := g.capture
    let taken := fun e : Edge => skateEvent f s { edge := e, tick := tick, number := n }
    let becomes := fun c' : Capture => s.putFrog f (some { g with capture := c' })
    let opened := fun c' : Capture => { c' with
      phase := .contact, riseTick := tick, drawTotal := 0, bounces := 0, stall := false, tag := none
      drawStart := if c'.drawHigh then .at tick else .none
      hold := .running (s.partTime + BitVec.ofNat 32 g.params.skateHold) 0 0 }
    (c.phase = .idle → taken .entryRise = becomes (opened c)) ∧
    (c.phase = .contact → taken .entryRise = s) ∧
    (c.phase = .settling → (tick - c.fallTick).toNat ≤ g.params.bounceGap → taken .entryRise = becomes { c with
      phase := .contact, bounces := min (c.bounces + 1) 255, settle := .stopped
      drawStart := if c.drawStart = .pending then .at tick else c.drawStart }) ∧
    (c.phase = .settling → g.params.bounceGap < (tick - c.fallTick).toNat →
      ∃ h, (conclude f s).frog f = some h ∧ h.params = g.params ∧ h.capture.phase = .idle ∧
        h.capture.drawHigh = c.drawHigh ∧
        taken .entryRise = (conclude f s).putFrog f (some { h with capture := opened h.capture })) ∧
    (c.phase = .contact → taken .entryFall = becomes { c with
      phase := .settling, fallTick := tick, settle := .running (s.partTime + BitVec.ofNat 32 s.globals.settle) 0 0
      drawTotal := match c.drawStart with
        | .at d => min (c.drawTotal + (tick - d).toNat) 65535
        | _ => c.drawTotal
      drawStart := match c.drawStart with
        | .at _ => .pending
        | k => k }) ∧
    (c.phase ≠ .contact → taken .entryFall = s) ∧
    (c.drawHigh = true → taken .drawRise = s) ∧
    (c.drawHigh = false → taken .drawRise = becomes { c with
      drawHigh := true
      drawStart := match c.phase with
        | .contact => .at tick
        | .settling => .pending
        | .idle => c.drawStart }) ∧
    (c.drawHigh = false → taken .drawFall = s) ∧
    (c.drawHigh = true → taken .drawFall = becomes { c with
      drawHigh := false
      drawTotal := match c.phase, c.drawStart with
        | .contact, .at d => min (c.drawTotal + (tick - d).toNat) 65535
        | _, _ => c.drawTotal
      drawStart := match c.phase with
        | .idle => c.drawStart
        | _ => .none }) ∧
    taken .exitRise = s ∧
    (c.phase = .idle → taken .tag = s) ∧
    (c.phase ≠ .idle → taken .tag = becomes { c with tag := some n }))

/-- The SETTLE expiry concludes a contact (R76), and a conclusion (R78 to R81): a stall adds STALL, noise changes the record alone, and a passage is
handed over with its route. A bouncing passage with a tag is first handed to the vehicle table (R119, and R110, R111 for its
entry); the passage then joins the queue, with the head check where it is the head, or is discarded with OVERFLOW added
where the queue holds 4 (R89, R90). The tag of a NOISE or STALL record is a free value (log entry 17). The SKATE_HOLD expiry
marks a contact as a stall and adds STALL to the block set (R77). A timer that is not due changes nothing (log entry 3), and
FROG_STATE follows the changes made (log entry 13). -/
def Obligations.SkateTimerExpiries : Prop :=
  ∀ (s : State) (f : FrogIx) (g : Frog), s.frog f = some g →
    (g.capture.settle.expired s.partTime = false ∨ g.capture.phase ≠ .settling →
      exec (.settleExpiry f) s = .next s) ∧
    (g.capture.settle.expired s.partTime = true → g.capture.phase = .settling →
      exec (.settleExpiry f) s = .next (conclude f s)) ∧
    (let c := g.capture
      let w : Tick := c.fallTick - c.riseTick
      let route := if w.toNat ≤ 2 * c.drawTotal then g.params.drawSense else g.params.drawSense.other
      let bouncing := decide (g.params.bounceMax < c.bounces)
      let ended := fun (j : Judgement) (tag : Option VehicleNumber) => ({ c with
        phase := .idle, settle := .stopped, hold := .stopped, drawStart := .none, drawTotal := 0, bounces := 0, tag := none
        stall := false
        last := some { judgement := j, width := w, drawTotal := c.drawTotal, bounces := c.bounces, tag := tag } } : Capture)
      let dropped := if Config.droppedTagKept then c.tag else none
      let passed : Request := { kind := .passage c.tag w, target := route, phase := .waiting }
      let g' := { g with capture := ended (.passage bouncing route) c.tag }
      (c.stall = true ∨ g.params.wMax < w.toNat →
        conclude f s = blockGained f { g with capture := ended .stall dropped } .stall s) ∧
      (c.stall = false → w.toNat ≤ g.params.wMax → w.toNat < g.params.wMin →
        conclude f s = s.putFrog f (some { g with capture := ended .noise dropped })) ∧
      (c.stall = false → w.toNat ≤ g.params.wMax → g.params.wMin ≤ w.toNat →
        ∃ b : State,
          -- the bounce, handed to the vehicle table
          (bouncing = false ∨ c.tag = none → b = s) ∧
          (∀ n, bouncing = true → c.tag = some n →
            onEntry n s (fun l => raise (.vehicleFault n .bounce (.atFrog f)) (s.setVehicles
              (heardAs s n (fun v => recorded .bounce (.atFrog f) s.partTime { v with bounce := true }) l))) id b) ∧
          -- the passage, handed to the frog
          (g.queue = [] → conclude f s
            = raiseFrog f (checkHead f (b.putFrog f (some { g' with queue := [passed] }))).1) ∧
          (g.queue ≠ [] → g.queue.length < 4 → conclude f s
            = b.putFrog f (some { g' with queue := g.queue ++ [passed] })) ∧
          (4 ≤ g.queue.length → conclude f s = blockGained f g' .overflow b))) ∧
    (g.capture.hold.expired s.partTime = false ∨ g.capture.phase = .idle → exec (.skateHoldExpiry f) s = .next s) ∧
    (g.capture.hold.expired s.partTime = true → g.capture.phase ≠ .idle →
      exec (.skateHoldExpiry f) s
        = .next (blockGained f { g with capture := { g.capture with stall := true, hold := .stopped } } .stall s))

/-- A POSITION report while the head is THROWING (R92, R98, R100): the target sets the head, the other route and MOVING are
ignored, LOST fails the throw. A DISPATCH or RETURN head that is set leaves the queue: the next head is checked, or OVERFLOW
goes with the last entry. FROG_STATE follows the changes made (log entry 13). -/
def Obligations.PositionReportDuringAThrow : Prop :=
  ∀ (s : State) (f : FrogIx) (g : Frog) (r : Request) (rest : List Request) (dest src : LineAddr) (seq code : Byte),
    s.supervising → src ≠ 0x0000 → s.frogAt src = some f → s.frog f = some g → g.queue = r :: rest →
    r.phase = .throwing →
    let filed := fileFrame .field (makeFrame dest src 0x21 seq [code])
    (code = 0x02 ∨ code = r.target.other.code →
      exec (.positionReport dest src seq [code]) s = .next (filed s)) ∧
    (code = r.target.code → ∀ tag w, r.kind = .passage tag w →
      exec (.positionReport dest src seq [code]) s = .next (filed (raiseFrog f (s.putFrog f (some { g with
        position := .at r.target, throwTimer := .stopped, queue := { r with phase := .set } :: rest
        exitTimer := .running (s.partTime + BitVec.ofNat 32 (g.params.exitTimeout / 2)) 1
          (g.params.exitTimeout - g.params.exitTimeout / 2) }))))) ∧
    (code = r.target.code → (r.kind = .dispatch ∨ r.kind = .returning) →
      let g' := { g with position := .at r.target, throwTimer := .stopped, queue := rest }
      (rest ≠ [] → exec (.positionReport dest src seq [code]) s
        = .next (filed (raiseFrog f (checkHead f (s.putFrog f (some g'))).1))) ∧
      (rest = [] → g.blocks.overflow = false →
        exec (.positionReport dest src seq [code]) s = .next (filed (raiseFrog f (s.putFrog f (some g'))))) ∧
      (rest = [] → g.blocks.overflow = true →
        let b := { g.blocks with overflow := false }
        exec (.positionReport dest src seq [code]) s
          = .next (filed (raiseFrog f (raise (.frogBlock f .overflow false b)
              (s.putFrog f (some { g' with blocks := b }))))))) ∧
    (code = 0x03 → exec (.positionReport dest src seq [code]) s = .next (filed (raiseFrog f (blockGained f { g with
      position := .unknown, throwTimer := .stopped, queue := { r with phase := .waiting } :: rest, wait := none }
      .position s))))

/-- A POSITION report while no head is THROWING (R103): NORMAL, REVERSE and LOST move the position, MOVING and a report of
the position held are ignored; under a set passage a change adds POSITION and the head stays SET; a WAITING head is checked
where the position changes, and may go to SET at once (the head check is stated in DispatcherThrow). -/
def Obligations.PositionReportAtRest : Prop :=
  ∀ (s : State) (f : FrogIx) (g : Frog) (dest src : LineAddr) (seq code : Byte) (p : Position),
    s.supervising → src ≠ 0x0000 → s.frogAt src = some f → s.frog f = some g → headIn .throwing g.queue = false →
    let filed := fileFrame .field (makeFrame dest src 0x21 seq [code])
    (code = 0x02 → exec (.positionReport dest src seq [code]) s = .next (filed s)) ∧
    ((code = 0x00 ∧ p = .at .normal ∨ code = 0x01 ∧ p = .at .reverse ∨ code = 0x03 ∧ p = .unknown) →
      (g.position = p → exec (.positionReport dest src seq [code]) s = .next (filed s)) ∧
      (g.position ≠ p → g.queue = [] → exec (.positionReport dest src seq [code]) s
        = .next (filed (raiseFrog f (s.putFrog f (some { g with position := p }))))) ∧
      (g.position ≠ p → (∃ r rest, g.queue = r :: rest ∧ r.phase = .waiting) →
        exec (.positionReport dest src seq [code]) s
          = .next (filed (raiseFrog f (checkHead f (s.putFrog f (some { g with position := p }))).1))) ∧
      (g.position ≠ p → headSetPassage g.queue = true →
        exec (.positionReport dest src seq [code]) s
          = .next (filed (raiseFrog f (blockGained f { g with position := p } .position s)))))

/-- The throw timer's expiry fails the throw (R86, R99), and the exit timer's takes its passage out (R83, R86, R92, R102): OVERFLOW goes
where the queue empties, then EXIT is added (log entry 14) and the next head, now blocked, keeps no registration wait (R93).
A timer that is not due changes nothing (log entry 3), and FROG_STATE follows the changes made (log entry 13). -/
def Obligations.FrogTimerExpiries : Prop :=
  ∀ (s : State) (f : FrogIx) (g : Frog) (r : Request) (rest : List Request), s.frog f = some g → g.queue = r :: rest →
    (g.throwTimer.expired s.partTime = false ∨ r.phase ≠ .throwing → exec (.throwTimerExpiry f) s = .next s) ∧
    (g.throwTimer.expired s.partTime = true → r.phase = .throwing →
      exec (.throwTimerExpiry f) s = .next (raiseFrog f (blockGained f { g with
        position := .unknown, throwTimer := .stopped, queue := { r with phase := .waiting } :: rest, wait := none }
        .position s))) ∧
    (∀ d n p, g.exitTimer = .running d (n + 1) p → reached s.partTime d = true →
      exec (.exitTimerFirstPeriodEnd f) s
        = .next (s.putFrog f (some { g with exitTimer := .running (d + BitVec.ofNat 32 p) n p }))) ∧
    (g.exitTimer.periodEnded s.partTime = false → exec (.exitTimerFirstPeriodEnd f) s = .next s) ∧
    (g.exitTimer.expired s.partTime = false ∨ headSetPassage g.queue = false →
      exec (.exitTimerExpiry f) s = .next s) ∧
    (g.exitTimer.expired s.partTime = true → headSetPassage g.queue = true → (∀ k ∈ rest, k.phase = .waiting) →
      let g' := { g with queue := rest, exitTimer := .stopped, wait := if rest = [] then g.wait else none }
      let b := { g.blocks with overflow := false }
      (rest ≠ [] ∨ g.blocks.overflow = false →
        exec (.exitTimerExpiry f) s = .next (raiseFrog f (blockGained f g' .exit s))) ∧
      (rest = [] → g.blocks.overflow = true → exec (.exitTimerExpiry f) s
        = .next (raiseFrog f (blockGained f { g' with blocks := b } .exit (raise (.frogBlock f .overflow false b) s)))))

/-- An exit (R75, R92, R101, R102, R120), as an event of a SKATE frame (its place among others is in SkateEdges). With a PASSAGE in SET at the
head it completes the passage: a tagged vehicle is placed in the leg entered, its entry made if the table holds none (R110, R111); a queue that has
become empty loses OVERFLOW, and a RETURN entry joins it where RETURN is YES and the position is not DEFAULT; the new head is
checked. With no set passage it adds EXIT. FROG_STATE follows the changes made (log entry 13). -/
def Obligations.ExitShoeFall : Prop :=
  ∀ (s : State) (f : FrogIx) (g : Frog) (dest src : LineAddr) (seq t1 t0 v1 v0 : Byte) (n : VehicleNumber),
    s.supervising → src ≠ 0x0000 → s.frogAt src = some f → s.frog f = some g → bcdNumber v1 v0 = some n →
    let left := skateEvent f s { edge := .exitFall, tick := t1 ++ t0, number := n }
    exec (.skateFrame dest src seq [0x01, 0x06, t1, t0, v1, v0]) s
      = .next (fileFrame .field (makeFrame dest src 0x22 seq [0x01, 0x06, t1, t0, v1, v0]) left) ∧
    ((∀ tag w target rest, g.queue ≠ { kind := .passage tag w, target, phase := .set } :: rest) →
      left = blockGained f g .exit s) ∧
    (∀ tag w target rest, g.queue = { kind := .passage tag w, target, phase := .set } :: rest →
      let g' := { g with queue := rest, exitTimer := .stopped }
      let u := s.putFrog f (some g')
      ∃ b : State,
        -- the tagged vehicle, placed
        (tag = none → b = u) ∧
        (∀ m, tag = some m → onEntry m u (fun l => u.setVehicles (heardAs s m (fun v => { v with
          located := some (match target with
            | .normal => g.params.normalLeg
            | .reverse => g.params.reverseLeg) }) l)) id b) ∧
        -- the frog
        (rest ≠ [] → left = raiseFrog f (checkHead f b).1) ∧
        (rest = [] →
          let e := { g' with blocks := { g.blocks with overflow := false } }
          let c := if g.blocks.overflow then raise (.frogBlock f .overflow false e.blocks) (b.putFrog f (some e)) else b
          (g.params.returns = false ∨ g.position = .at g.params.dflt → left = raiseFrog f c) ∧
          (g.params.returns = true → g.position ≠ .at g.params.dflt →
            left = raiseFrog f (checkHead f (c.putFrog f (some { e with
              queue := [{ kind := .returning, target := g.params.dflt, phase := .waiting }] }))).1)))

/-! ## Vehicles (spec/06) -/

/-- The LOCATE and SIGN_OFF reports (R107 to R112, R116), with any well-formed fields. LOCATE places its vehicle and sets last
heard; a number the table does not hold gets an entry first, at 128 entries by evicting the fault-free entry of greatest age,
or has only TABLE_FULL raised where every entry is faulted. SIGN_OFF removes its entry and has DEWIRE reviewed; for a number
not held it does nothing. -/
def Obligations.LocateReport : Prop :=
  ∀ (s : State) (dest src : LineAddr) (seq v1 v0 place frog scope : Byte) (n : VehicleNumber) (i : Option SectionIx)
    (f : Option FrogIx), s.supervising → src ≠ 0x0000 → bcdNumber v1 v0 = some n →
    (place = 0xFF ∧ i = none ∨ ∃ j, i = some j ∧ place = BitVec.ofNat 8 j.val ∧ (s.sect j).isSome = true) →
    (frog = 0xFF ∧ f = none ∨ ∃ k, f = some k ∧ frog = BitVec.ofNat 8 k.val ∧ (s.frog k).isSome = true) →
    scope ∈ [(0x01 : Byte), 0x02, 0x03, 0x04] →
    let run := fun kind : Byte => exec (.vehicleFrame dest src seq [v1, v0, kind, place, frog, scope]) s
    let filed := fun kind : Byte => fileFrame .field (makeFrame dest src 0x31 seq [v1, v0, kind, place, frog, scope])
    (∃ r, onEntry n s (fun l => s.setVehicles (heardAs s n (fun v => { v with located := i }) l)) id r ∧
      run 0x01 = .next (filed 0x01 r)) ∧
    (s.vehicle n = none → run 0x05 = .next (filed 0x05 s)) ∧
    (∀ v, s.vehicle n = some v → run 0x05 = .next (filed 0x05
      (dewireReviewed v.dewire (s.setVehicles (s.vehicles.filter fun w => decide (w.number ≠ n))))))

/-- The DEWIRE, INSULATION and CLEAR reports (R86, R87, R109 to R111, R113 to R115, R117, R121), with any well-formed fields, on an
entry held or made. DEWIRE: the active fault with its frog, the section named, the record, DEWIRE at the frog, and the review
at the frog forgotten; one that no entry can be made for sets the frog's untracked flag and its DEWIRE. INSULATION: the
active fault, the section named, the record. CLEAR: the faults of its scope leave, and DEWIRE is reviewed. A full fault list
loses its oldest record. -/
def Obligations.DewireReport : Prop :=
  ∀ (s : State) (dest src : LineAddr) (seq v1 v0 place frog scope : Byte) (n : VehicleNumber) (i : Option SectionIx)
    (f : Option FrogIx), s.supervising → src ≠ 0x0000 → bcdNumber v1 v0 = some n →
    (place = 0xFF ∧ i = none ∨ ∃ j, i = some j ∧ place = BitVec.ofNat 8 j.val ∧ (s.sect j).isSome = true) →
    (frog = 0xFF ∧ f = none ∨ ∃ k, f = some k ∧ frog = BitVec.ofNat 8 k.val ∧ (s.frog k).isSome = true) →
    scope ∈ [(0x01 : Byte), 0x02, 0x03, 0x04] →
    let run := fun kind : Byte => exec (.vehicleFrame dest src seq [v1, v0, kind, place, frog, scope]) s
    let filed := fun kind : Byte => fileFrame .field (makeFrame dest src 0x31 seq [v1, v0, kind, place, frog, scope])
    let old := (s.vehicle n).bind Vehicle.dewire
    let named : Place := match i with
      | some j => .inSection j
      | none => .nowhere
    let at_ : Place := match f with
      | some k => .atFrog k
      | none => named
    let dewired := fun (untracked : Bool) (t : State) => match f.bind fun k => (t.frog k).map fun g => (k, g) with
      | some (k, g) => blockGained k { g with untracked := g.untracked || untracked } .dewire t
      | none => t
    -- DEWIRE
    (∃ r, onEntry n s (fun l =>
        let t := dewired false (raise (.vehicleFault n .dewire at_) (s.setVehicles (heardAs s n (fun v =>
          recorded .dewire at_ s.partTime { v with dewire := some f, located := i.or v.located }) l)))
        if old = some f then t else dewireReviewed old t) (dewired true) r ∧
      run 0x02 = .next (filed 0x02 r)) ∧
    -- INSULATION
    (∃ r, onEntry n s (fun l => raise (.vehicleFault n .insulation named) (s.setVehicles (heardAs s n (fun v =>
        recorded .insulation named s.partTime { v with insulation := true, located := i.or v.located }) l))) id r ∧
      run 0x03 = .next (filed 0x03 r)) ∧
    -- CLEAR
    (∃ r, onEntry n s (fun l =>
        let t := s.setVehicles (heardAs s n (fun v => { v with
          dewire := if scope = 0x01 ∨ scope = 0x04 then none else v.dewire
          insulation := if scope = 0x02 ∨ scope = 0x04 then false else v.insulation
          bounce := if scope = 0x03 ∨ scope = 0x04 then false else v.bounce }) l)
        if scope = 0x01 ∨ scope = 0x04 then dewireReviewed old t else t) id r ∧
      run 0x04 = .next (filed 0x04 r))

/-- The timers kept in whole seconds (R27, R48, R123). A period that ends before the last starts the next one. The last one of
the reclaim timer of a LIVE section returns the attempt count to 0, without a notice. The last one of an age timer removes
a fault-free entry and restarts the timer of a faulted one; a fault-free one whose last fault a CLEAR_BLOCK took less than
VEH_AGE ago is removed, or kept with the timer restarted, by the free value of log entry 28. A timer that is not due changes nothing (log entry 3). -/
def Obligations.SecondsTimers : Prop :=
  (∀ (s : State) (i : SectionIx) (x : Sect), s.sect i = some x → x.state = .live →
      (x.timer.expired s.partTime = true →
        exec (.reclaimExpiry i) s = .next (s.putSect i (some { x with attempts := 0, timer := .stopped }))) ∧
      (∀ d n p, x.timer = .running d (n + 1) p → reached s.partTime d = true →
        exec (.reclaimPeriodEnd i) s
          = .next (s.putSect i (some { x with timer := .running (d + BitVec.ofNat 32 p) n p }))) ∧
      (x.timer.expired s.partTime = false → exec (.reclaimExpiry i) s = .next s) ∧
      (x.timer.periodEnded s.partTime = false → exec (.reclaimPeriodEnd i) s = .next s)) ∧
  (∀ (s : State) (n : VehicleNumber) (v : Vehicle), s.vehicle n = some v →
      (let removed := s.setVehicles (s.vehicles.filter fun w => decide (w.number ≠ n))
       let restarted := s.setVehicles (s.vehicles.map fun w =>
         if w.number = n then { w with
           clearedAt := none
           ageTimer := if s.globals.vehAge = 0 then .stopped
             else .running (s.partTime + 1000) (s.globals.vehAge - 1) 1000 }
         else w)
       let newlyCleared := v.clearedAt.any fun c => decide ((s.partTime - c).toNat < 1000 * s.globals.vehAge)
       (v.ageTimer.expired s.partTime = true → v.dewire = none → v.insulation = false → v.bounce = false →
         exec (.ageTimerExpiry n) s = .next (if newlyCleared && !Config.clearedAgesOut then restarted else removed)) ∧
       (v.ageTimer.expired s.partTime = true → (v.dewire.isSome = true ∨ v.insulation = true ∨ v.bounce = true) →
         exec (.ageTimerExpiry n) s = .next restarted)) ∧
      (v.ageTimer.expired s.partTime = false → exec (.ageTimerExpiry n) s = .next s) ∧
      ((s.vehicles.map Vehicle.number).Nodup → ∀ d k p, v.ageTimer = .running d (k + 1) p → reached s.partTime d = true →
        exec (.ageTimerPeriodEnd n) s = .next (s.setVehicles (s.vehicles.map fun w =>
          if w.number = n then { w with ageTimer := .running (d + BitVec.ofNat 32 p) k p } else w))) ∧
      ((s.vehicles.map Vehicle.number).Nodup → v.ageTimer.periodEnded s.partTime = false →
        exec (.ageTimerPeriodEnd n) s = .next s))

/-! ## The order list (spec/07) -/

/-- Registration (R129 to R132) in a list with one entry for a target: room, merge, supersession, conflict, and
the law of the list (R129). -/
def Obligations.Registration : Prop :=
  ∀ (l : List Order) (a : LineAddr) (k : OrderKind), (l.map Order.target).Nodup → l.length ≤ 32 →
    let normals := fun m : List Order => (m.filter fun e => !(decide (e.kind = .trip) || decide (e.kind = .opening))).length
    ((∀ e ∈ l, e.target ≠ a) →
      register l a k =
        if (k = .trip ∨ k = .opening) ∧ l.length ≤ 31 ∨ l.length ≤ 27 then
          (l ++ [{ target := a, kind := k, state := .queued }], .taken)
        else (l, .noRoom)) ∧
    (∀ e ∈ l, e.target = a →
      (e.kind = k → register l a k = (l, .merged)) ∧
      ((k = .trip ∨ k = .opening) → e.kind ≠ .trip → e.kind ≠ .opening →
        register l a k = (l.erase e ++ [{ target := a, kind := k, state := .queued }], .taken)) ∧
      (e.kind ≠ k → ¬ ((k = .trip ∨ k = .opening) ∧ e.kind ≠ .trip ∧ e.kind ≠ .opening) →
        register l a k = (l, .conflict))) ∧
    (((register l a k).1.map Order.target).Nodup ∧ (register l a k).1.length ≤ 32 ∧
      (normals l ≤ 28 → normals (register l a k).1 ≤ 28))

/-- The ending of a SENT order (R50, R58, R95, R96, R99, R134, R137 to R140). An ACK with another SEQ is ignored; the entry's own
ends it, as does the expiry of its ACK timer: the entry is freed, its owner is told (`ownerTold`), and the registration waits
are served. Service goes through sections with an urgent wait, then sections with a normal wait, each by index, then frogs
by index; each registers again, a frog by its head check; the first registration refused for room stops it, one refused for
a conflict does not. An owner ignores the ending of a kind it never registers (log entry 25). A timer that is not due, and a
target with no SENT entry, change nothing (log entry 3). -/
def Obligations.EndingOfASentOrder : Prop :=
  -- the service of the waits
  (∀ s : State, serveWaits s = serveTurns ((List.finRange 48).map Turn.urgent ++ (List.finRange 48).map Turn.normal
      ++ (List.finRange 64).map Turn.frog) s ∧ serveTurns [] s = s ∧ (s.noWaits → serveWaits s = s)) ∧
  (∀ (s : State) (t : Turn) (rest : List Turn) (i : SectionIx) (x : Sect), s.sect i = some x →
    (t = .urgent i ∨ t = .normal i) →
    ((∀ k, x.wait = some k → (t = .urgent i ↔ k ≠ .trip ∧ k ≠ .opening)) → serveTurns (t :: rest) s = serveTurns rest s) ∧
    (∀ k l answer, x.wait = some k → (t = .urgent i ↔ k = .trip ∨ k = .opening) →
      register s.orders x.params.feederAddr k = (l, answer) →
      (answer = .taken ∨ answer = .merged →
        serveTurns (t :: rest) s = serveTurns rest ((s.setOrders l).putSect i (some { x with wait := none }))) ∧
      (answer = .conflict → serveTurns (t :: rest) s = serveTurns rest s) ∧
      (answer = .noRoom → serveTurns (t :: rest) s = s.setOrders l))) ∧
  (∀ (s : State) (rest : List Turn) (i : SectionIx) (f : FrogIx),
    (s.sect i = none → serveTurns (.urgent i :: rest) s = serveTurns rest s ∧
      serveTurns (.normal i :: rest) s = serveTurns rest s) ∧
    (s.frog f = none → serveTurns (.frog f :: rest) s = serveTurns rest s)) ∧
  (∀ (s : State) (rest : List Turn) (f : FrogIx) (g : Frog), s.frog f = some g →
    (g.wait = none → serveTurns (.frog f :: rest) s = serveTurns rest s) ∧
    (∀ h, g.wait ≠ none → (headChecked f s).frog f = some h →
      (h.wait ≠ none ∧ (∀ e ∈ (headChecked f s).orders, e.target ≠ h.params.ctrlAddr) →
        serveTurns (.frog f :: rest) s = headChecked f s) ∧
      (h.wait = none ∨ (∃ e ∈ (headChecked f s).orders, e.target = h.params.ctrlAddr) →
        serveTurns (.frog f :: rest) s = serveTurns rest (headChecked f s)))) ∧
  -- an ACK
  (∀ (s : State) (e : Order) (q : Byte) (timer : Timer) (dest src : LineAddr) (seq echo code : Byte),
    s.supervising → src ≠ 0x0000 → OrdersOk s → e ∈ s.orders → e.target = src → e.state = .sent q timer →
    (code = 0x00 ∨ code = 0x01) →
    let filed := fileFrame .field (makeFrame dest src 0x41 seq [echo, code])
    (echo ≠ q → exec (.ackFrame dest src seq [echo, code]) s = .next (filed s)) ∧
    (echo = q → ∃ r, orderEnded e (decide (code = 0x00)) s r ∧
      exec (.ackFrame dest src seq [echo, code]) s = .next (filed r))) ∧
  -- the ACK timer
  (∀ (s : State) (a : LineAddr), OrdersOk s →
    ((∀ e ∈ s.orders, e.target = a → e.state = .queued) → exec (.ackTimerExpiry a) s = .next s) ∧
    (∀ e q timer, e ∈ s.orders → e.target = a → e.state = .sent q timer →
      (timer.expired s.partTime = false → exec (.ackTimerExpiry a) s = .next s) ∧
      (timer.expired s.partTime = true → ∃ r, orderEnded e false s r ∧ exec (.ackTimerExpiry a) s = .next r)))

/-! ## Frame starts, notices (spec/08, spec/09) -/

/-- A frame start on FIELD (R135, R136, R151, R152, R154): the oldest QUEUED urgent order goes first and leaves the rotation
order as it was; else the first candidate present in the rotation order, which moves to the end in ROTATING mode. The line is
the model's own field, and that a start with no candidate changes nothing is the model's reading of R151 (log entry 9). -/
def Obligations.FieldFrameStart : Prop :=
  ∀ (s : State), s.activity = .running → s.field.rotation ⊆ [.normalOrder, .forward] →
    let urgent := s.orders.find? fun e => decide (e.state = .queued) && (decide (e.kind = .trip) || decide (e.kind = .opening))
    let normal := s.orders.find? fun e => decide (e.state = .queued) && !(decide (e.kind = .trip) || decide (e.kind = .opening))
    let there := fun c : Candidate => match c with
      | .normalOrder => normal.isSome
      | .forward => !s.field.forward.isEmpty
      | _ => false
    let sent := fun (e : Order) (rotation : List Candidate) => ({ s with
      orders := s.orders.map fun o => if o.target = e.target then
        { o with state := .sent s.field.seq (.running (s.partTime + BitVec.ofNat 32 s.globals.ackTimeout) 0 0) } else o
      field := { s.field with
        seq := s.field.seq + 1, rotation := rotation
        line := (makeFrame e.target s.ownAddr 0x51 s.field.seq [e.kind.code]).bytes } } : State)
    let after := fun (c : Candidate) =>
      if s.globals.arbField = .rotating then (s.field.rotation.filter fun d => decide (d ≠ c)) ++ [c] else s.field.rotation
    (∀ e, urgent = some e → exec .fieldFrameStart s = .next (sent e s.field.rotation)) ∧
    (∀ e, urgent = none → s.field.rotation.find? there = some .normalOrder → normal = some e →
      exec .fieldFrameStart s = .next (sent e (after .normalOrder))) ∧
    (∀ f more, urgent = none → s.field.rotation.find? there = some .forward → s.field.forward = f :: more →
      exec .fieldFrameStart s = .next { s with field := { s.field with
        forward := more, rotation := after .forward, line := f.bytes } }) ∧
    (urgent = none → s.field.rotation.find? there = none → exec .fieldFrameStart s = .next s)

/-- A frame start on UPLINK (R151, R153, R154, R158, R163): the first candidate present in the rotation order is taken from its
queue and sent; a reply or notice carries the own address and the port's sequence counter, which advances; the candidate
moves to the end in ROTATING mode. The line is the model's own field, and that a start with no candidate changes nothing is
the model's reading of R151 (log entry 9). -/
def Obligations.UplinkFrameStart : Prop :=
  ∀ (s : State), s.activity = .running →
    let there := fun c : Candidate => match c with
      | .reply => !s.replies.isEmpty
      | .notice => !s.notices.isEmpty
      | .forward => !s.uplink.forward.isEmpty
      | .normalOrder => false
    let after := fun (c : Candidate) =>
      if s.globals.arbUplink = .rotating then (s.uplink.rotation.filter fun d => decide (d ≠ c)) ++ [c]
      else s.uplink.rotation
    s.uplink.rotation ⊆ [.reply, .notice, .forward] →
    (∀ r more, s.uplink.rotation.find? there = some .reply → s.replies = r :: more →
      exec .uplinkFrameStart s = .next { s with
        replies := more
        uplink := { s.uplink with
          seq := s.uplink.seq + 1, rotation := after .reply
          line := (makeFrame r.dest s.ownAddr 0x62 s.uplink.seq
            ([r.code] ++ beWord r.tag ++ [r.result.code] ++ r.data)).bytes } }) ∧
    (∀ n more, s.uplink.rotation.find? there = some .notice → s.notices = n :: more →
      exec .uplinkFrameStart s = .next { s with
        notices := more
        uplink := { s.uplink with
          seq := s.uplink.seq + 1, rotation := after .notice
          line := (makeFrame n.dest s.ownAddr 0x71 s.uplink.seq n.body.payload).bytes } }) ∧
    (∀ f more, s.uplink.rotation.find? there = some .forward → s.uplink.forward = f :: more →
      exec .uplinkFrameStart s = .next { s with
        uplink := { s.uplink with forward := more, rotation := after .forward, line := f.bytes } }) ∧
    (s.uplink.rotation.find? there = none → exec .uplinkFrameStart s = .next s)

/-! ## Management (spec/10) -/

/-- A request that finds 4 replies queued is discarded unexecuted: nothing changes (R161). Otherwise an unknown code is
answered UNKNOWN_REQUEST, and an argument list of the wrong length, or an argument outside its range or coding, RANGE, with
no data and no other change (R162, R166 to R169, R171 to R173, section 10.2). (The RANGE of a mode is in SetMode, of a filter
rule in LoadFilter, of a reference in SectionLoads and FrogLoads.) -/
def Obligations.RequestsThatAreNotExecuted : Prop :=
  (∀ (s : State) (src : LineAddr) (seq code : Byte) (tag : BitVec 16) (a : List Byte),
    s.activity = .running → src ≠ 0x0000 → a.length ≤ 117 →
    (s.replies.length < 4 → code ∉ requestCodes →
      exec (.unknownRequest src seq tag code a) s = .next (s.answered src code tag .unknownRequest [])) ∧
    (4 ≤ s.replies.length → exec (.unknownRequest src seq tag code a) s = .next s) ∧
    (∀ e ∈ [(Instr.status src seq tag a, (0x01 : Byte), 0), (.setMode src seq tag a, 0x02, 1),
        (.restart src seq tag a, 0x03, 0), (.setGlobals src seq tag a, 0x04, 9), (.loadSection src seq tag a, 0x10, 39),
        (.unloadSection src seq tag a, 0x11, 1), (.loadFrog src seq tag a, 0x12, 24),
        (.unloadFrog src seq tag a, 0x13, 1), (.loadFilter src seq tag a, 0x14, 10),
        (.readSection src seq tag a, 0x20, 1), (.readFrog src seq tag a, 0x21, 1), (.readVehicle src seq tag a, 0x22, 2),
        (.readOrders src seq tag a, 0x23, 1), (.popFault src seq tag a, 0x30, 2),
        (.signOffVehicle src seq tag a, 0x31, 2), (.blockFrog src seq tag a, 0x40, 1),
        (.clearBlock src seq tag a, 0x41, 2), (.flushFrog src seq tag a, 0x42, 1)],
      (4 ≤ s.replies.length → exec e.1 s = .next s) ∧
      (s.replies.length < 4 → a.length ≠ e.2.2 → exec e.1 s = .next (s.answered src e.2.1 tag .range [])))) ∧
  -- an argument outside its range
  (∀ (s : State) (src : LineAddr) (seq : Byte) (tag : BitVec 16), s.takes src [] →
    let refused := fun (c : Instr) (code : Byte) => exec c s = .next (s.answered src code tag .range [])
    (∀ b : Byte,
      (48 ≤ b.toNat → refused (.unloadSection src seq tag [b]) 0x11 ∧ refused (.readSection src seq tag [b]) 0x20) ∧
      (64 ≤ b.toNat → refused (.unloadFrog src seq tag [b]) 0x13 ∧ refused (.readFrog src seq tag [b]) 0x21 ∧
        refused (.blockFrog src seq tag [b]) 0x40 ∧ refused (.flushFrog src seq tag [b]) 0x42) ∧
      (31 < b.toNat → refused (.readOrders src seq tag [b]) 0x23)) ∧
    (∀ b1 b0 : Byte, (∃ b ∈ [b1, b0], 9 < b.toNat / 16 ∨ 9 < b.toNat % 16) →
      refused (.readVehicle src seq tag [b1, b0]) 0x22 ∧ refused (.popFault src seq tag [b1, b0]) 0x30 ∧
      refused (.signOffVehicle src seq tag [b1, b0]) 0x31) ∧
    (∀ b r : Byte, 64 ≤ b.toNat ∨ r ∉ [(0x01 : Byte), 0x02, 0x04, 0x08, 0x10, 0x20] →
      refused (.clearBlock src seq tag [b, r]) 0x41) ∧
    (∀ a : List Byte,
      let one := fun k : Nat => (a.getD k 0).toNat
      let two := fun k : Nat => one k * 256 + one (k + 1)
      let four := fun k : Nat => two k * 65536 + two (k + 2)
      (a.length = 9 →
        (0xFFFE < two 0 ∨ (∃ e ∈ [(two 2, 5, 1000), (one 4, 0, 1), (one 5, 0, 1), (one 6, 1, 200)],
            e.1 < e.2.1 ∨ e.2.2 < e.1) ∨
          two 7 ≠ 0 ∧ (two 7 < 10 ∨ 3600 < two 7)) →
        refused (.setGlobals src seq tag a) 0x04) ∧
      (a.length = 39 →
        (∃ e ∈ [(one 0, 0, 47), (two 1, 1, 0xFFFE), (one 3, 0, 11), (two 4, 1, 4000), (two 6, 500, 8000), (two 8, 5, 2000),
            (one 10, 1, 255), (two 11, 100, 8000), (two 13, 0, 1000), (one 15, 0, 15), (four 16, 1000, 2000000000),
            (two 20, 10, 1000), (two 22, 0, 1000), (two 24, 10, 5000), (two 26, 1, 65534), (one 28, 0, 3),
            (two 29, 100, 60000), (two 31, 1, 600), (two 33, 20, 2000), (two 35, 50, 5000), (two 37, 100, 10000)],
          e.1 < e.2.1 ∨ e.2.2 < e.1) →
        refused (.loadSection src seq tag a) 0x10) ∧
      (a.length = 24 →
        ((∃ e ∈ [(one 0, 0, 63), (two 1, 1, 0xFFFE), (one 3, 0, 47), (one 4, 0, 47), (one 5, 0, 47), (one 6, 0, 1),
            (one 7, 0, 1), (two 8, 100, 5000), (four 10, 1000, 120000), (two 14, 10, 5000), (two 16, 100, 60000),
            (two 18, 1, 2000), (one 20, 0, 15), (two 21, 100, 30000), (one 23, 0, 1)],
          e.1 < e.2.1 ∨ e.2.2 < e.1) ∨ two 16 ≤ two 14) →
        refused (.loadFrog src seq tag a) 0x12)))

/-- STATUS (R155, R159, R164): the block as it stands, then the four port flags and NOTICE_LOST are cleared; a
STATUS discarded at a full reply queue clears nothing. -/
def Obligations.StatusReportsAndClears : Prop :=
  ∀ (s : State) (src : LineAddr) (seq : Byte) (tag : BitVec 16),
    (s.activity = .running → src ≠ 0x0000 → 4 ≤ s.replies.length → exec (.status src seq tag []) s = .next s) ∧
    (s.takes src [] → exec (.status src seq tag []) s = .next (State.answered { s with
        uplink := { s.uplink with checkErr := false, forwardDrop := false }
        field := { s.field with checkErr := false, forwardDrop := false }
        noticeLost := false } src 0x01 tag .ok
      ([s.mode.code, s.cause.code
        , BitVec.ofNat 8 ((if s.uplink.checkErr then 1 else 0) + (if s.uplink.forwardDrop then 2 else 0)
            + (if s.field.checkErr then 4 else 0) + (if s.field.forwardDrop then 8 else 0)
            + (if s.noticeLost then 16 else 0))
        , BitVec.ofNat 8 ((List.finRange 48).countP fun i => (s.sect i).isSome)
        , BitVec.ofNat 8 ((List.finRange 64).countP fun f => (s.frog f).isSome)
        , BitVec.ofNat 8 s.vehicles.length, BitVec.ofNat 8 s.orders.length, BitVec.ofNat 8 s.notices.length]
        ++ beWord s.ownAddr ++ be32 s.partTime.toNat
        ++ beWord s.globals.centreAddr ++ be16 s.globals.ackTimeout
        ++ [s.globals.arbField.code, s.globals.arbUplink.code, BitVec.ofNat 8 s.globals.settle]
        ++ be16 s.globals.vehAge)))

/-- SET_MODE (R165, R177, R178): the mode in force changes nothing but the reply, a value that is no mode is RANGE, and a
change sets every block's dynamic state to its starting values and leaves the reply alone in the reply queue. -/
def Obligations.SetMode : Prop :=
  ∀ (s : State) (src : LineAddr) (seq b : Byte) (tag : BitVec 16) (m : Mode), s.takes src [b] →
    (1 < b.toNat → exec (.setMode src seq tag [b]) s = .next (s.answered src 0x02 tag .range [])) ∧
    (b = s.mode.code → exec (.setMode src seq tag [b]) s = .next (s.answered src 0x02 tag .ok [])) ∧
    (b = m.code → m ≠ s.mode → ∃ t, exec (.setMode src seq tag [b]) s = .next t ∧ t.mode = m ∧
      t.replies = [{ dest := src, code := 0x02, tag, result := .ok, data := [] }] ∧
      t.vehicles = [] ∧ t.orders = [] ∧ t.notices = [] ∧
      t.uplink = { s.uplink with seq := 0, rotation := [.reply, .notice, .forward], forward := [] } ∧
      t.field = { s.field with seq := 0, rotation := [.normalOrder, .forward], forward := [] } ∧
      (∀ u, t.unit u = { holder := none, waiting := [], pointer := 0, lastTest := none }) ∧
      (∀ i, s.sect i = none → t.sect i = none) ∧ (∀ f, s.frog f = none → t.frog f = none) ∧
      (∀ i x, s.sect i = some x → t.sect i = some {
        params := x.params, state := .unknown, attempts := 0, origin := none, tripReason := none, lockReason := none
        lastReport := none, isolateOnOpen := false, timer := .stopped, wait := none
        prot := { iPrev := 0, iLast := 0, expectedSeq := 0, synced := false, window := none, h := 0, blind := false
                  supplyLost := false, lowRun := none
                  silence := if m = .supervise then .running (s.partTime + BitVec.ofNat 32 x.params.silenceTime) 0 0
                    else .stopped } }) ∧
      (∀ f g, s.frog f = some g → t.frog f = some {
        params := g.params, position := .unknown, untracked := false, queue := [], throwTimer := .stopped
        exitTimer := .stopped, wait := none
        blocks := { dewire := false, stall := false, position := false, overflow := false, exit := false, dispatch := false }
        capture := { phase := .idle, riseTick := 0, fallTick := 0, drawHigh := false, drawStart := .none, drawTotal := 0
                     bounces := 0, tag := none, stall := false, settle := .stopped, hold := .stopped, last := none } }) ∧
      t.globals = s.globals ∧ t.filter = s.filter ∧ t.noticeLost = s.noticeLost ∧ t.cause = s.cause ∧
      t.ownAddr = s.ownAddr ∧ t.partTime = s.partTime ∧ t.activity = s.activity)

/-- SET_GLOBALS with all six values in range writes them together (R123, R166): an arbiter whose mode changes returns to its
fixed order, and VEH_AGE starts or stops the age timers when it goes from or to 0. -/
def Obligations.SetGlobals : Prop :=
  ∀ (s : State) (src : LineAddr) (seq : Byte) (tag : BitVec 16) (g : Globals), s.takes src g.bytes →
    g.centreAddr.toNat ≤ 0xFFFE → 5 ≤ g.ackTimeout → g.ackTimeout ≤ 1000 → 1 ≤ g.settle → g.settle ≤ 200 →
    (g.vehAge = 0 ∨ (10 ≤ g.vehAge ∧ g.vehAge ≤ 3600)) →
    exec (.setGlobals src seq tag g.bytes) s = .next (State.answered { s with
        globals := g
        field := if g.arbField = s.globals.arbField then s.field
          else { s.field with rotation := [.normalOrder, .forward] }
        uplink := if g.arbUplink = s.globals.arbUplink then s.uplink
          else { s.uplink with rotation := [.reply, .notice, .forward] }
        vehicles := if g.vehAge = 0 then s.vehicles.map fun v => { v with ageTimer := .stopped }
          else if s.globals.vehAge = 0 then
            s.vehicles.map fun v => { v with
              ageTimer := .running (s.partTime + 1000) (g.vehAge - 1) 1000, clearedAt := none }
          else s.vehicles } src 0x04 tag .ok [])

/-- LOAD_SECTION and UNLOAD_SECTION (R2, R3, R28, R29, R122, R167, R168). An unload takes the section out of its record and out of
every vehicle entry and raises its SECTION_STATE notice, whose last four fields are free values (log entry 16; the count of
free values is the model's own, log entry 19); nothing else changes but the reply. -/
def Obligations.SectionLoads : Prop :=
  ∀ (s : State) (src : LineAddr) (seq : Byte) (tag : BitVec 16) (i : SectionIx) (p : SectionParams),
    s.takes src (u8 i.val :: p.bytes) → p.inRanges = true →
    let clash : Prop := p.feederAddr = s.ownAddr ∨ (∃ j x, j ≠ i ∧ s.sect j = some x ∧ x.params.feederAddr = p.feederAddr)
      ∨ (∃ f g, s.frog f = some g ∧ g.params.ctrlAddr = p.feederAddr)
    let load := exec (.loadSection src seq tag (u8 i.val :: p.bytes)) s
    let unload := exec (.unloadSection src seq tag [u8 i.val]) s
    (clash → load = .next (s.answered src 0x10 tag .range [])) ∧
    (¬ clash → s.sect i = none → load = .next (
      (raise (.sectionState i .unknown none none 0 0) (s.putSect i (some (Sect.starting s.mode s.partTime p)))).answered
        src 0x10 tag .ok [])) ∧
    (∀ x, ¬ clash → s.sect i = some x →
      (x.state = .unknown ∨ x.state = .isolated ∨ x.state = .lockedOut ∨
        (p.feederAddr = x.params.feederAddr ∧ p.testUnit = x.params.testUnit) →
        load = .next ((s.putSect i (some { x with
          params := p, attempts := min x.attempts p.recloseMax
          lastReport := if p.feederAddr = x.params.feederAddr then x.lastReport else none
          prot := if p.feederAddr = x.params.feederAddr then x.prot
            else { x.prot with synced := false, window := none } })).answered src 0x10 tag .ok [])) ∧
      (¬ (x.state = .unknown ∨ x.state = .isolated ∨ x.state = .lockedOut) →
        ¬ (p.feederAddr = x.params.feederAddr ∧ p.testUnit = x.params.testUnit) →
        load = .next (s.answered src 0x10 tag .state []))) ∧
    (s.sect i = none → unload = .next (s.answered src 0x11 tag .ok [])) ∧
    (∀ x, s.sect i = some x →
      (¬ (x.state = .unknown ∨ x.state = .isolated ∨ x.state = .lockedOut) ∨
        (∃ f g, s.frog f = some g ∧ g.params.names i = true) → unload = .next (s.answered src 0x11 tag .state [])) ∧
      ((x.state = .unknown ∨ x.state = .isolated ∨ x.state = .lockedOut) →
        (∀ f g, s.frog f = some g → g.params.names i = false) →
        ∃ trip lock attempts h n, h.length = 4 ∧
          unload = .next (State.answered { raise (.sectionUnloaded i trip lock attempts h)
              ((s.putSect i none).setVehicles (s.vehicles.map fun v =>
                if v.located = some i then { v with located := none } else v)) with freeCount := n } src 0x11 tag .ok [])))

/-- LOAD_FROG and UNLOAD_FROG (R65, R66, R83, R84, R122, R169). -/
def Obligations.FrogLoads : Prop :=
  ∀ (s : State) (src : LineAddr) (seq : Byte) (tag : BitVec 16) (f : FrogIx) (p : FrogParams),
    s.takes src (u8 f.val :: p.bytes) → p.inRanges = true →
    let valid : Prop := (s.sect p.powerSection).isSome = true ∧ (s.sect p.normalLeg).isSome = true ∧
      (s.sect p.reverseLeg).isSome = true ∧ p.ctrlAddr ≠ s.ownAddr ∧
      (∀ k g, k ≠ f → s.frog k = some g → g.params.ctrlAddr ≠ p.ctrlAddr) ∧
      (∀ i x, s.sect i = some x → x.params.feederAddr ≠ p.ctrlAddr)
    let load := exec (.loadFrog src seq tag (u8 f.val :: p.bytes)) s
    let unload := exec (.unloadFrog src seq tag [u8 f.val]) s
    (¬ valid → load = .next (s.answered src 0x12 tag .range [])) ∧
    (valid → s.frog f = none → load = .next ((s.putFrog f (some (Frog.starting p))).answered src 0x12 tag .ok [])) ∧
    (s.frog f = none → unload = .next (s.answered src 0x13 tag .notFound [])) ∧
    (∀ g, s.frog f = some g →
      (g.queue = [] → (∀ r, g.position ≠ .moving r) →
        (valid → load = .next ((s.putFrog f (some { g with
          params := p, capture := if p.ctrlAddr = g.params.ctrlAddr then g.capture else Capture.starting })).answered
            src 0x12 tag .ok [])) ∧
        unload = .next (State.answered ((s.putFrog f none).setVehicles (s.vehicles.map fun v =>
          if v.dewire = some (some f) then { v with dewire := some none } else v)) src 0x13 tag .ok [])) ∧
      (g.queue ≠ [] ∨ (∃ r, g.position = .moving r) →
        (valid → load = .next (s.answered src 0x12 tag .state [])) ∧
        unload = .next (s.answered src 0x13 tag .state [])))

/-- LOAD_FILTER (R170): a value outside its codes or a source high below source low is RANGE; otherwise every field of the
rule is replaced, an unused rule included, and nothing else changes but the reply; a rule not in use matches no frame. -/
def Obligations.LoadFilter : Prop :=
  ∀ (s : State) (src : LineAddr) (seq : Byte) (tag : BitVec 16) (b0 b1 b2 b3 b4 l1 l0 h1 h0 b9 : Byte),
    s.takes src [b0, b1, b2, b3, b4, l1, l0, h1, h0, b9] →
    let low : LineAddr := l1 ++ l0
    let high : LineAddr := h1 ++ h0
    let run := exec (.loadFilter src seq tag [b0, b1, b2, b3, b4, l1, l0, h1, h0, b9]) s
    (31 < b0.toNat ∨ 1 < b1.toNat ∨ 2 < b2.toNat ∨ (b3 ≠ 0x00 ∧ ¬ (b3 = 0xFF ∧ b4 = 0xFF)) ∨ high.toNat < low.toNat ∨
      1 < b9.toNat → run = .next (s.answered src 0x14 tag .range [])) ∧
    (∀ (r : RuleIx) (port : RulePort), b0.toNat = r.val → b1.toNat ≤ 1 →
      (b2 = 0x00 ∧ port = .uplink ∨ b2 = 0x01 ∧ port = .field ∨ b2 = 0x02 ∧ port = .either) →
      (b3 = 0x00 ∨ b3 = 0xFF ∧ b4 = 0xFF) → low.toNat ≤ high.toNat → b9.toNat ≤ 1 →
      let rule : FilterRule :=
        { inUse := decide (b1 = 0x01), port, kind := if b3 = 0x00 then some b4 else none, srcLow := low, srcHigh := high
          hold := decide (b9 = 0x01) }
      run = .next (State.answered { s with filter := s.filter.set r.val rule r.isLt } src 0x14 tag .ok [])) ∧
    (∀ (rule : FilterRule) (p : PortId) (f : Frame), rule.inUse = false → rule.accepts p f = false)

/-- The reads (R26, R52, R64, R82, R105, R124, R126, R171, R172) change nothing but the reply queue (and, for READ_FROG, the
model's own count of free values), and their data are the fields of the tables of R171 and R172, in their order. The places
of READ_FROG that have nothing to carry are free values (log entry 15), an overdue timer reads as the time its later periods
leave (log entry 4), and a flag byte is 0x01 or 0x00 (log entry 18). -/
def Obligations.Reads : Prop :=
  ∀ (s : State) (src : LineAddr) (seq : Byte) (tag : BitVec 16), s.takes src [] →
    let left := timeLeft s.partTime
    let free := fun k : Nat => Config.freeByte (s.freeCount + k)
    (∀ i : SectionIx, s.sect i = none →
      exec (.readSection src seq tag [u8 i.val]) s = .next (s.answered src 0x20 tag .notFound [])) ∧
    (∀ (i : SectionIx) (x : Sect), s.sect i = some x →
      let p := x.prot
      let u := s.unit x.params.testUnit
      let parameters : List Byte := [u8 i.val] ++ x.params.bytes
      let protection : List Byte := beWord (BitVec.ofInt 16 p.iPrev) ++ beWord (BitVec.ofInt 16 p.iLast) ++ [p.expectedSeq
          , u8 ((if p.synced then 0x01 else 0) + (if p.window.isSome then 0x02 else 0) + (if p.blind then 0x04 else 0)
              + (if p.supplyLost then 0x08 else 0) + (if p.lowRun.isSome then 0x10 else 0))]
        ++ (match p.window with
          | some w => beWord (BitVec.ofInt 16 w.base) ++ [u8 w.count] ++ beWord (BitVec.ofInt 16 w.threshold)
          | none => [0x00, 0x00, 0x00, 0x00, 0x00])
        ++ be32 p.h
        ++ be32 (match p.lowRun with
          | some t => (s.partTime - t).toNat
          | none => 0)
      let controller : List Byte := [x.state.code, x.state.subCode, u8 x.attempts
          , match x.origin with
            | none => 0x00
            | some .dispatch => 0x01
            | some .auto => 0x02
          , tripCode x.tripReason, lockCode x.lockReason
          , match x.lastReport with
            | none => 0x00
            | some .opened => 0x01
            | some .closed => 0x02
            | some .fault => 0x03
          , if x.isolateOnOpen then 0x01 else 0x00] ++ left x.timer
        ++ [match x.wait with
            | some k => k.code
            | none => 0x00
          , u8 (s.vehicles.countP fun v => decide (v.located = some i))
          , u8 (s.vehicles.countP fun v => decide (v.located = some i) && v.insulation)]
      let testUnit : List Byte := [if u.holder = none then 0x00 else 0x01, indexByte u.holder, u8 u.pointer.val, u8 u.waiting.length
          , if i ∈ u.waiting then 0x01 else 0x00, indexByte (u.lastTest.map Prod.fst)]
        ++ (match u.lastTest with
          | none => [0x00, 0xFF, 0xFF]
          | some (_, .pass r) => 0x01 :: beWord r
          | some (_, .fail r) => 0x02 :: beWord r
          | some (_, .timeout) => [0x03, 0xFF, 0xFF]
          | some (_, .orderFail) => [0x04, 0xFF, 0xFF]
          | some (_, .abandoned) => [0x05, 0xFF, 0xFF])
      exec (.readSection src seq tag [u8 i.val]) s
        = .next (s.answered src 0x20 tag .ok (parameters ++ protection ++ controller ++ testUnit)) ∧
      parameters.length = 39 ∧ protection.length = 19 ∧ controller.length = 15 ∧ testUnit.length = 9) ∧
    (∀ f : FrogIx, s.frog f = none →
      exec (.readFrog src seq tag [u8 f.val]) s = .next (s.answered src 0x21 tag .notFound [])) ∧
    (∀ (f : FrogIx) (g : Frog), s.frog f = some g →
      let c := g.capture
      let parameters : List Byte := [u8 f.val] ++ g.params.bytes
      let controller : List Byte := [g.position.code, g.position.targetCode
          , u8 ((if g.blocks.dewire then 0x01 else 0) + (if g.blocks.stall then 0x02 else 0)
              + (if g.blocks.position then 0x04 else 0) + (if g.blocks.overflow then 0x08 else 0)
              + (if g.blocks.exit then 0x10 else 0) + (if g.blocks.dispatch then 0x20 else 0))
          , if g.untracked then 0x01 else 0x00, u8 g.queue.length
          , match g.wait with
            | some .normal => 0x05
            | some .reverse => 0x06
            | none => 0x00] ++ left g.throwTimer ++ left g.exitTimer
      let queue : List Byte := (List.range 4).flatMap fun k => match g.queue[k]? with
        | none => [0xFF, 0xFF, 0xFF, 0xFF, 0xFF, 0xFF, 0xFF]
        | some r => (match r.kind with
          | .passage t w => [0x01, r.target.code] ++ tagBytes t ++ beWord w
          | .dispatch => [0x02, r.target.code, 0xFF, 0xFF, free (2 * k), free (2 * k + 1)]
          | .returning => [0x03, r.target.code, 0xFF, 0xFF, free (2 * k), free (2 * k + 1)]) ++ [r.phase.code]
      let capture : List Byte := [match c.phase with
            | .idle => 0x00
            | .contact => 0x01
            | .settling => 0x02] ++ beWord c.riseTick ++ beWord c.fallTick ++ [if c.drawHigh then 0x01 else 0x00]
        ++ (match c.drawStart with
          | .none => [0x00, 0xFF, 0xFF]
          | .at t => 0x01 :: beWord t
          | .pending => [0x02, 0xFF, 0xFF])
        ++ be16 c.drawTotal ++ [u8 c.bounces] ++ tagBytes c.tag ++ [if c.stall then 0x01 else 0x00]
        ++ left c.settle ++ left c.hold
      let conclusion : List Byte := match c.last with
        | none => 0x00 :: (List.range 7).map (fun k => free (8 + k)) ++ [0xFF, 0xFF]
        | some e => (match e.judgement with
            | .passage _ _ => 0x01
            | .noise => 0x02
            | .stall => 0x03) :: beWord e.width ++ be16 e.drawTotal ++ [u8 e.bounces]
          ++ (match e.judgement with
            | .passage b r => [if b then 0x01 else 0x00, r.code]
            | _ => [free 13, free 14]) ++ tagBytes e.tag
      exec (.readFrog src seq tag [u8 f.val]) s = .next (State.answered { s with freeCount := s.freeCount + 15 } src 0x21 tag .ok
        (parameters ++ controller ++ queue ++ capture ++ conclusion)) ∧
      parameters.length = 24 ∧ controller.length = 14 ∧ queue.length = 28 ∧ capture.length = 23 ∧ conclusion.length = 10) ∧
    (∀ (n : VehicleNumber), s.vehicle n = none →
      exec (.readVehicle src seq tag (bcdBytes n)) s = .next (s.answered src 0x22 tag .notFound [])) ∧
    (∀ (n : VehicleNumber) (v : Vehicle), s.vehicle n = some v →
      exec (.readVehicle src seq tag (bcdBytes n)) s = .next (s.answered src 0x22 tag .ok (
        bcdBytes n ++ [indexByte v.located] ++ be32 v.lastHeard.toNat ++ be32 v.age
        ++ [u8 ((if v.dewire.isSome then 0x01 else 0) + (if v.insulation then 0x02 else 0) + (if v.bounce then 0x04 else 0))
          , match v.dewire with
            | some (some f) => u8 f.val
            | _ => 0xFF
          , if v.dewire.isSome || v.insulation || v.bounce then 0x00 else match v.located with
            | some i => if (s.sect i).any fun x => decide (x.state = .live) && !x.prot.supplyLost then 0x02 else 0x01
            | none => 0x03
          , if v.listLost then 0x01 else 0x00] ++ left v.ageTimer ++ [u8 v.faults.length]
        ++ v.faults.flatMap fun r => [r.code.code] ++ (match r.place with
          | .nowhere => [0x00, 0xFF]
          | .inSection i => [0x01, u8 i.val]
          | .atFrog f => [0x02, u8 f.val]) ++ be32 r.heard.toNat))) ∧
    (∀ b : Byte, b.toNat ≤ 31 →
      let standing := s.orders.drop b.toNat
      exec (.readOrders src seq tag [b]) s
        = .next (s.answered src 0x23 tag (if 12 < standing.length then .full else .ok) (
          [u8 s.orders.length, b, u8 (min 12 standing.length)]
          ++ (standing.take 12).flatMap fun e => beWord e.target ++ [e.kind.code]
            ++ (match e.state with
              | .queued => [if e.kind = .trip ∨ e.kind = .opening then 0x01 else 0x00, 0x00, 0xFF, 0xFF]
              | .sent q ack => [if e.kind = .trip ∨ e.kind = .opening then 0x03 else 0x02, q] ++ (left ack).drop 2)
            ++ (match s.sectAt e.target, s.frogAt e.target with
              | some i, _ => [0x01, u8 i.val]
              | none, some f => [0x02, u8 f.val]
              | none, none => [0x00, 0xFF]))))

/-- POP_FAULT (R118, R173): NOT_FOUND for a number not held, EMPTY for an empty list, else the oldest record with LIST_LOST as
it stood (its coding 0x01 or 0x00 is log entry 18), which is then cleared; last heard, the age timer, the active faults and
the section stay. -/
def Obligations.PopFault : Prop :=
  ∀ (s : State) (src : LineAddr) (seq : Byte) (tag : BitVec 16) (n : VehicleNumber), s.takes src (bcdBytes n) →
    (s.vehicle n = none → exec (.popFault src seq tag (bcdBytes n)) s = .next (s.answered src 0x30 tag .notFound [])) ∧
    (∀ v, s.vehicle n = some v → v.faults = [] →
      exec (.popFault src seq tag (bcdBytes n)) s = .next (s.answered src 0x30 tag .empty [])) ∧
    (∀ v r rest, s.vehicle n = some v → v.faults = r :: rest →
      exec (.popFault src seq tag (bcdBytes n)) s = .next (State.answered { s with
          vehicles := s.vehicles.map fun w =>
            if w.number = n then { w with faults := rest, listLost := false } else w } src 0x30 tag .ok
        ([r.code.code] ++ r.place.codes ++ be32 r.heard.toNat ++ [if v.listLost then 0x01 else 0x00])))

/-- SIGN_OFF_VEHICLE (R87, R116, R121, R173): the entry is removed, and DEWIRE reviewed at the frog its active DEWIRE held: a frog
whose last active DEWIRE it was, with no untracked dewire, loses DEWIRE with its notice and has its head checked. -/
def Obligations.SignOffVehicle : Prop :=
  ∀ (s : State) (src : LineAddr) (seq : Byte) (tag : BitVec 16) (n : VehicleNumber), s.takes src (bcdBytes n) →
    (s.vehicle n = none →
      exec (.signOffVehicle src seq tag (bcdBytes n)) s = .next (s.answered src 0x31 tag .notFound [])) ∧
    (∀ v, s.vehicle n = some v → (v.dewire = none ∨ v.dewire = some none) →
      exec (.signOffVehicle src seq tag (bcdBytes n)) s = .next (State.answered { s with
        vehicles := s.vehicles.filter fun w => decide (w.number ≠ n) } src 0x31 tag .ok [])) ∧
    (∀ v, s.vehicle n = some v →
      exec (.signOffVehicle src seq tag (bcdBytes n)) s = .next (State.answered
        (dewireReviewed v.dewire (s.setVehicles (s.vehicles.filter fun w => decide (w.number ≠ n)))) src 0x31 tag .ok []))

/-- BLOCK_FROG, CLEAR_BLOCK and FLUSH_FROG (R86 to R88, R92, R93, R104, R105, R122, R173). BLOCK_FROG adds DISPATCH. CLEAR_BLOCK of each
of the six reasons takes it out with its FROG_BLOCK notice and has the head checked, or changes nothing where it is absent;
for DEWIRE the untracked flag and the active DEWIREs at the frog go with it, and no age timer changes; an entry left
without a fault keeps the part time for its age timer's expiry (log entry 28). FLUSH_FROG
removes the WAITING entries and OVERFLOW. Each is answered OK, and for a frog that is not configured NOT_FOUND. -/
def Obligations.FrogRequests : Prop :=
  ∀ (s : State) (src : LineAddr) (seq : Byte) (tag : BitVec 16) (f : FrogIx), s.takes src [] →
    (s.frog f = none →
      exec (.blockFrog src seq tag [u8 f.val]) s = .next (s.answered src 0x40 tag .notFound []) ∧
      (∀ r ∈ [(0x01 : Byte), 0x02, 0x04, 0x08, 0x10, 0x20],
        exec (.clearBlock src seq tag [u8 f.val, r]) s = .next (s.answered src 0x41 tag .notFound [])) ∧
      exec (.flushFrog src seq tag [u8 f.val]) s = .next (s.answered src 0x42 tag .notFound [])) ∧
    (∀ g, s.frog f = some g →
      exec (.blockFrog src seq tag [u8 f.val]) s
        = .next ((blockGained f g .dispatch s).answered src 0x40 tag .ok []) ∧
      -- CLEAR_BLOCK of a reason but DEWIRE: its flag, and the set without it
      (∀ e ∈ [((0x02 : Byte), BlockReason.stall, { g.blocks with stall := false }),
          (0x04, .position, { g.blocks with position := false }), (0x08, .overflow, { g.blocks with overflow := false }),
          (0x10, .exit, { g.blocks with exit := false }), (0x20, .dispatch, { g.blocks with dispatch := false })],
        exec (.clearBlock src seq tag [u8 f.val, e.1]) s = .next (State.answered
          (if e.2.2 = g.blocks then s
            else headChecked f (raise (.frogBlock f e.2.1 false e.2.2) (s.putFrog f (some { g with blocks := e.2.2 }))))
          src 0x41 tag .ok [])) ∧
      -- CLEAR_BLOCK of DEWIRE
      (let u := s.setVehicles (s.vehicles.map fun v => if v.dewire = some (some f) then { v with
         dewire := none, clearedAt := if v.insulation || v.bounce then v.clearedAt else some s.partTime } else v)
       let b := { g.blocks with dewire := false }
       exec (.clearBlock src seq tag [u8 f.val, 0x01]) s = .next (State.answered
          (if g.blocks.dewire then headChecked f (raise (.frogBlock f .dewire false b)
              (u.putFrog f (some { g with untracked := false, blocks := b })))
            else u.putFrog f (some { g with untracked := false })) src 0x41 tag .ok [])) ∧
      -- FLUSH_FROG
      (let waiting := g.queue.head?.any fun r => decide (r.phase = .waiting)
       let g' := { g with
         queue := g.queue.filter fun r => decide (r.phase ≠ .waiting), wait := if waiting then none else g.wait }
       let b := { g.blocks with overflow := false }
       let t := if g.blocks.overflow then raise (.frogBlock f .overflow false b) (s.putFrog f (some { g' with blocks := b }))
         else s.putFrog f (some g')
       exec (.flushFrog src seq tag [u8 f.val]) s
         = .next (State.answered (if waiting then raiseFrog f t else t) src 0x42 tag .ok [])))

/-! ## Resets (spec/11) -/

/-- A reset begins (R155, R159, R174, R176), at POWER_ON_RESET, SUPPLY_DIP_RESET or RESET_PIN in any state, a reset or a hold under
way included, and at a RESTART request that is executed: the relay closes, the cause is recorded, the port flags and
NOTICE_LOST are cleared, every timer is stopped; configuration is cleared by the first two and kept by the others. A RESTART
lasts only its execution, so its 5 ms hold begins at once; the others last until RESET_END. Whether configuration still
counts as kept through a chain of resets is log entry 8, and that the dynamic state otherwise stands still is log entry 20. -/
def Obligations.ResetBegins : Prop :=
  ∀ (s : State) (src : LineAddr) (seq : Byte) (tag : BitVec 16),
    ∀ e ∈ [(Instr.powerOnReset, ResetCause.powerOn, true, Activity.resetting),
        (.supplyDipReset, .supplyDip, true, .resetting), (.resetPin, .resetPin, false, .resetting),
        (.restart src seq tag [], .restart, false, .holding 5)],
      (e.2.1 = .restart → s.takes src []) →
      ∃ t, exec e.1 s = .next t ∧ t.activity = e.2.2.2 ∧ t.cause = e.2.1 ∧
        t.uplink = { s.uplink with checkErr := false, forwardDrop := false } ∧
        t.field = { s.field with checkErr := false, forwardDrop := false } ∧
        t.noticeLost = false ∧ t.replies = s.replies ∧ t.notices = s.notices ∧ t.mode = s.mode ∧ t.ownAddr = s.ownAddr ∧
        (∀ i x, t.sect i = some x → x.timer = .stopped ∧ x.prot.silence = .stopped) ∧
        (∀ f g, t.frog f = some g → g.throwTimer = .stopped ∧ g.exitTimer = .stopped ∧
          g.capture.settle = .stopped ∧ g.capture.hold = .stopped) ∧
        (∀ v ∈ t.vehicles, v.ageTimer = .stopped) ∧
        (∀ o ∈ t.orders, ∀ q timer, o.state = .sent q timer → timer = .stopped) ∧
        (e.2.2.1 = true → (∀ i, t.sect i = none) ∧ (∀ f, t.frog f = none) ∧
          (∀ r, t.filter.get r =
            { inUse := false, port := .uplink, kind := none, srcLow := 0x0000, srcHigh := 0xFFFF, hold := false }) ∧
          t.globals =
            { centreAddr := 0x0000, ackTimeout := 40, arbField := .fixed, arbUplink := .fixed, settle := 20, vehAge := 0 } ∧
          t.configKept = false) ∧
        (e.2.2.1 = false → t.filter = s.filter ∧ t.globals = s.globals ∧
          t.configKept = (decide (s.activity = .running) || s.configKept) ∧
          (∀ i, (t.sect i).map Sect.params = (s.sect i).map Sect.params) ∧
          (∀ f, (t.frog f).map Frog.params = (s.frog f).map Frog.params))

/-- The end of a reset and of its start-up hold (R174 to R177): the hold has the length of the reset's kind; at its end the
relay opens, part time is 0, the own address and the mode follow the straps and AUTORUN, every block starts afresh, the
rotation orders of the arbiters (R151) at their fixed orders, and the START notice is raised. The model's choices: the levels of the pins that State keeps (log entry 6), RESET_END outside a reset
and START_UP_HOLD_END before the hold has run down changing nothing (log entry 7), and configuration counted as kept or not
through a chain of resets (log entry 8). -/
def Obligations.ResetEnds : Prop :=
  ∀ (s : State) (straps : Byte) (autorun : Bool),
    (s.activity = .resetting → exec .resetEnd s = .next { s with
      activity := .holding (if s.cause = .powerOn ∨ s.cause = .supplyDip then 100 else 5), resetN := true
      supplyOk := true }) ∧
    (s.activity ≠ .resetting → exec .resetEnd s = .next s) ∧
    (s.activity ≠ .holding 0 → exec (.startUpHoldEnd straps autorun) s = .next s) ∧
    (s.activity = .holding 0 → ∃ t, exec (.startUpHoldEnd straps autorun) s = .next t ∧ t.activity = .running ∧
      t.partTime = 0 ∧ t.ownAddr.toNat = 0x7F00 + straps.toNat ∧ t.straps = straps ∧ t.autorun = autorun ∧
      t.mode = (if autorun = true ∧ s.configKept = true then .supervise else .bypass) ∧
      t.vehicles = [] ∧ t.orders = [] ∧ t.replies = [] ∧
      t.uplink = { s.uplink with seq := 0, rotation := [.reply, .notice, .forward], forward := [] } ∧
      t.field = { s.field with seq := 0, rotation := [.normalOrder, .forward], forward := [] } ∧
      t.noticeLost = s.noticeLost ∧
      t.notices = (if s.globals.centreAddr = 0x0000 then []
        else [{ dest := s.globals.centreAddr, body := .start s.cause t.mode }]) ∧
      (∀ u, t.unit u = { holder := none, waiting := [], pointer := 0, lastTest := none }) ∧
      (∀ i, t.sect i = (s.sect i).map fun x => Sect.starting t.mode 0 x.params) ∧
      (∀ f, t.frog f = (s.frog f).map fun g => Frog.starting g.params) ∧
      t.globals = s.globals ∧ t.filter = s.filter ∧ t.cause = s.cause)
end

