-- ==== Sys2Proof/Laws/State.lean ====
section
/-!
SUPPORT. The small lemmas of the state: one lemma for each field after each setter, true by rfl, and what a section, a frog
or a test unit reads as after a table is written. Later proofs rewrite with these and unfold no record update.
-/

namespace Sys2Proof.Machine

variable (s : State)

/-! ## setSections -/

@[simp] theorem State.setSections_sections (v : Vector (Option Sect) 48) : (s.setSections v).sections = v := rfl
@[simp] theorem State.setSections_units (v : Vector (Option Sect) 48) : (s.setSections v).units = s.units := rfl
@[simp] theorem State.setSections_frogs (v : Vector (Option Sect) 48) : (s.setSections v).frogs = s.frogs := rfl
@[simp] theorem State.setSections_vehicles (v : Vector (Option Sect) 48) : (s.setSections v).vehicles = s.vehicles := rfl
@[simp] theorem State.setSections_orders (v : Vector (Option Sect) 48) : (s.setSections v).orders = s.orders := rfl
@[simp] theorem State.setSections_filter (v : Vector (Option Sect) 48) : (s.setSections v).filter = s.filter := rfl
@[simp] theorem State.setSections_uplink (v : Vector (Option Sect) 48) : (s.setSections v).uplink = s.uplink := rfl
@[simp] theorem State.setSections_field (v : Vector (Option Sect) 48) : (s.setSections v).field = s.field := rfl
@[simp] theorem State.setSections_notices (v : Vector (Option Sect) 48) : (s.setSections v).notices = s.notices := rfl
@[simp] theorem State.setSections_noticeLost (v : Vector (Option Sect) 48) : (s.setSections v).noticeLost = s.noticeLost := rfl
@[simp] theorem State.setSections_replies (v : Vector (Option Sect) 48) : (s.setSections v).replies = s.replies := rfl
@[simp] theorem State.setSections_globals (v : Vector (Option Sect) 48) : (s.setSections v).globals = s.globals := rfl
@[simp] theorem State.setSections_cause (v : Vector (Option Sect) 48) : (s.setSections v).cause = s.cause := rfl
@[simp] theorem State.setSections_mode (v : Vector (Option Sect) 48) : (s.setSections v).mode = s.mode := rfl
@[simp] theorem State.setSections_activity (v : Vector (Option Sect) 48) : (s.setSections v).activity = s.activity := rfl
@[simp] theorem State.setSections_configKept (v : Vector (Option Sect) 48) : (s.setSections v).configKept = s.configKept := rfl
@[simp] theorem State.setSections_ownAddr (v : Vector (Option Sect) 48) : (s.setSections v).ownAddr = s.ownAddr := rfl
@[simp] theorem State.setSections_partTime (v : Vector (Option Sect) 48) : (s.setSections v).partTime = s.partTime := rfl
@[simp] theorem State.setSections_straps (v : Vector (Option Sect) 48) : (s.setSections v).straps = s.straps := rfl
@[simp] theorem State.setSections_autorun (v : Vector (Option Sect) 48) : (s.setSections v).autorun = s.autorun := rfl
@[simp] theorem State.setSections_resetN (v : Vector (Option Sect) 48) : (s.setSections v).resetN = s.resetN := rfl
@[simp] theorem State.setSections_supplyOk (v : Vector (Option Sect) 48) : (s.setSections v).supplyOk = s.supplyOk := rfl
@[simp] theorem State.setSections_freeCount (v : Vector (Option Sect) 48) : (s.setSections v).freeCount = s.freeCount := rfl
@[simp] theorem State.setSections_pending (v : Vector (Option Sect) 48) : (s.setSections v).pending = s.pending := rfl

/-! ## setFrogs -/

@[simp] theorem State.setFrogs_sections (v : Vector (Option Frog) 64) : (s.setFrogs v).sections = s.sections := rfl
@[simp] theorem State.setFrogs_units (v : Vector (Option Frog) 64) : (s.setFrogs v).units = s.units := rfl
@[simp] theorem State.setFrogs_frogs (v : Vector (Option Frog) 64) : (s.setFrogs v).frogs = v := rfl
@[simp] theorem State.setFrogs_vehicles (v : Vector (Option Frog) 64) : (s.setFrogs v).vehicles = s.vehicles := rfl
@[simp] theorem State.setFrogs_orders (v : Vector (Option Frog) 64) : (s.setFrogs v).orders = s.orders := rfl
@[simp] theorem State.setFrogs_filter (v : Vector (Option Frog) 64) : (s.setFrogs v).filter = s.filter := rfl
@[simp] theorem State.setFrogs_uplink (v : Vector (Option Frog) 64) : (s.setFrogs v).uplink = s.uplink := rfl
@[simp] theorem State.setFrogs_field (v : Vector (Option Frog) 64) : (s.setFrogs v).field = s.field := rfl
@[simp] theorem State.setFrogs_notices (v : Vector (Option Frog) 64) : (s.setFrogs v).notices = s.notices := rfl
@[simp] theorem State.setFrogs_noticeLost (v : Vector (Option Frog) 64) : (s.setFrogs v).noticeLost = s.noticeLost := rfl
@[simp] theorem State.setFrogs_replies (v : Vector (Option Frog) 64) : (s.setFrogs v).replies = s.replies := rfl
@[simp] theorem State.setFrogs_globals (v : Vector (Option Frog) 64) : (s.setFrogs v).globals = s.globals := rfl
@[simp] theorem State.setFrogs_cause (v : Vector (Option Frog) 64) : (s.setFrogs v).cause = s.cause := rfl
@[simp] theorem State.setFrogs_mode (v : Vector (Option Frog) 64) : (s.setFrogs v).mode = s.mode := rfl
@[simp] theorem State.setFrogs_activity (v : Vector (Option Frog) 64) : (s.setFrogs v).activity = s.activity := rfl
@[simp] theorem State.setFrogs_configKept (v : Vector (Option Frog) 64) : (s.setFrogs v).configKept = s.configKept := rfl
@[simp] theorem State.setFrogs_ownAddr (v : Vector (Option Frog) 64) : (s.setFrogs v).ownAddr = s.ownAddr := rfl
@[simp] theorem State.setFrogs_partTime (v : Vector (Option Frog) 64) : (s.setFrogs v).partTime = s.partTime := rfl
@[simp] theorem State.setFrogs_straps (v : Vector (Option Frog) 64) : (s.setFrogs v).straps = s.straps := rfl
@[simp] theorem State.setFrogs_autorun (v : Vector (Option Frog) 64) : (s.setFrogs v).autorun = s.autorun := rfl
@[simp] theorem State.setFrogs_resetN (v : Vector (Option Frog) 64) : (s.setFrogs v).resetN = s.resetN := rfl
@[simp] theorem State.setFrogs_supplyOk (v : Vector (Option Frog) 64) : (s.setFrogs v).supplyOk = s.supplyOk := rfl
@[simp] theorem State.setFrogs_freeCount (v : Vector (Option Frog) 64) : (s.setFrogs v).freeCount = s.freeCount := rfl
@[simp] theorem State.setFrogs_pending (v : Vector (Option Frog) 64) : (s.setFrogs v).pending = s.pending := rfl

/-! ## setUnits -/

@[simp] theorem State.setUnits_sections (v : Vector TestUnit 12) : (s.setUnits v).sections = s.sections := rfl
@[simp] theorem State.setUnits_units (v : Vector TestUnit 12) : (s.setUnits v).units = v := rfl
@[simp] theorem State.setUnits_frogs (v : Vector TestUnit 12) : (s.setUnits v).frogs = s.frogs := rfl
@[simp] theorem State.setUnits_vehicles (v : Vector TestUnit 12) : (s.setUnits v).vehicles = s.vehicles := rfl
@[simp] theorem State.setUnits_orders (v : Vector TestUnit 12) : (s.setUnits v).orders = s.orders := rfl
@[simp] theorem State.setUnits_filter (v : Vector TestUnit 12) : (s.setUnits v).filter = s.filter := rfl
@[simp] theorem State.setUnits_uplink (v : Vector TestUnit 12) : (s.setUnits v).uplink = s.uplink := rfl
@[simp] theorem State.setUnits_field (v : Vector TestUnit 12) : (s.setUnits v).field = s.field := rfl
@[simp] theorem State.setUnits_notices (v : Vector TestUnit 12) : (s.setUnits v).notices = s.notices := rfl
@[simp] theorem State.setUnits_noticeLost (v : Vector TestUnit 12) : (s.setUnits v).noticeLost = s.noticeLost := rfl
@[simp] theorem State.setUnits_replies (v : Vector TestUnit 12) : (s.setUnits v).replies = s.replies := rfl
@[simp] theorem State.setUnits_globals (v : Vector TestUnit 12) : (s.setUnits v).globals = s.globals := rfl
@[simp] theorem State.setUnits_cause (v : Vector TestUnit 12) : (s.setUnits v).cause = s.cause := rfl
@[simp] theorem State.setUnits_mode (v : Vector TestUnit 12) : (s.setUnits v).mode = s.mode := rfl
@[simp] theorem State.setUnits_activity (v : Vector TestUnit 12) : (s.setUnits v).activity = s.activity := rfl
@[simp] theorem State.setUnits_configKept (v : Vector TestUnit 12) : (s.setUnits v).configKept = s.configKept := rfl
@[simp] theorem State.setUnits_ownAddr (v : Vector TestUnit 12) : (s.setUnits v).ownAddr = s.ownAddr := rfl
@[simp] theorem State.setUnits_partTime (v : Vector TestUnit 12) : (s.setUnits v).partTime = s.partTime := rfl
@[simp] theorem State.setUnits_straps (v : Vector TestUnit 12) : (s.setUnits v).straps = s.straps := rfl
@[simp] theorem State.setUnits_autorun (v : Vector TestUnit 12) : (s.setUnits v).autorun = s.autorun := rfl
@[simp] theorem State.setUnits_resetN (v : Vector TestUnit 12) : (s.setUnits v).resetN = s.resetN := rfl
@[simp] theorem State.setUnits_supplyOk (v : Vector TestUnit 12) : (s.setUnits v).supplyOk = s.supplyOk := rfl
@[simp] theorem State.setUnits_freeCount (v : Vector TestUnit 12) : (s.setUnits v).freeCount = s.freeCount := rfl
@[simp] theorem State.setUnits_pending (v : Vector TestUnit 12) : (s.setUnits v).pending = s.pending := rfl

/-! ## setVehicles -/

@[simp] theorem State.setVehicles_sections (l : List Vehicle) : (s.setVehicles l).sections = s.sections := rfl
@[simp] theorem State.setVehicles_units (l : List Vehicle) : (s.setVehicles l).units = s.units := rfl
@[simp] theorem State.setVehicles_frogs (l : List Vehicle) : (s.setVehicles l).frogs = s.frogs := rfl
@[simp] theorem State.setVehicles_vehicles (l : List Vehicle) : (s.setVehicles l).vehicles = l := rfl
@[simp] theorem State.setVehicles_orders (l : List Vehicle) : (s.setVehicles l).orders = s.orders := rfl
@[simp] theorem State.setVehicles_filter (l : List Vehicle) : (s.setVehicles l).filter = s.filter := rfl
@[simp] theorem State.setVehicles_uplink (l : List Vehicle) : (s.setVehicles l).uplink = s.uplink := rfl
@[simp] theorem State.setVehicles_field (l : List Vehicle) : (s.setVehicles l).field = s.field := rfl
@[simp] theorem State.setVehicles_notices (l : List Vehicle) : (s.setVehicles l).notices = s.notices := rfl
@[simp] theorem State.setVehicles_noticeLost (l : List Vehicle) : (s.setVehicles l).noticeLost = s.noticeLost := rfl
@[simp] theorem State.setVehicles_replies (l : List Vehicle) : (s.setVehicles l).replies = s.replies := rfl
@[simp] theorem State.setVehicles_globals (l : List Vehicle) : (s.setVehicles l).globals = s.globals := rfl
@[simp] theorem State.setVehicles_cause (l : List Vehicle) : (s.setVehicles l).cause = s.cause := rfl
@[simp] theorem State.setVehicles_mode (l : List Vehicle) : (s.setVehicles l).mode = s.mode := rfl
@[simp] theorem State.setVehicles_activity (l : List Vehicle) : (s.setVehicles l).activity = s.activity := rfl
@[simp] theorem State.setVehicles_configKept (l : List Vehicle) : (s.setVehicles l).configKept = s.configKept := rfl
@[simp] theorem State.setVehicles_ownAddr (l : List Vehicle) : (s.setVehicles l).ownAddr = s.ownAddr := rfl
@[simp] theorem State.setVehicles_partTime (l : List Vehicle) : (s.setVehicles l).partTime = s.partTime := rfl
@[simp] theorem State.setVehicles_straps (l : List Vehicle) : (s.setVehicles l).straps = s.straps := rfl
@[simp] theorem State.setVehicles_autorun (l : List Vehicle) : (s.setVehicles l).autorun = s.autorun := rfl
@[simp] theorem State.setVehicles_resetN (l : List Vehicle) : (s.setVehicles l).resetN = s.resetN := rfl
@[simp] theorem State.setVehicles_supplyOk (l : List Vehicle) : (s.setVehicles l).supplyOk = s.supplyOk := rfl
@[simp] theorem State.setVehicles_freeCount (l : List Vehicle) : (s.setVehicles l).freeCount = s.freeCount := rfl
@[simp] theorem State.setVehicles_pending (l : List Vehicle) : (s.setVehicles l).pending = s.pending := rfl

/-! ## setOrders -/

@[simp] theorem State.setOrders_sections (l : List Order) : (s.setOrders l).sections = s.sections := rfl
@[simp] theorem State.setOrders_units (l : List Order) : (s.setOrders l).units = s.units := rfl
@[simp] theorem State.setOrders_frogs (l : List Order) : (s.setOrders l).frogs = s.frogs := rfl
@[simp] theorem State.setOrders_vehicles (l : List Order) : (s.setOrders l).vehicles = s.vehicles := rfl
@[simp] theorem State.setOrders_orders (l : List Order) : (s.setOrders l).orders = l := rfl
@[simp] theorem State.setOrders_filter (l : List Order) : (s.setOrders l).filter = s.filter := rfl
@[simp] theorem State.setOrders_uplink (l : List Order) : (s.setOrders l).uplink = s.uplink := rfl
@[simp] theorem State.setOrders_field (l : List Order) : (s.setOrders l).field = s.field := rfl
@[simp] theorem State.setOrders_notices (l : List Order) : (s.setOrders l).notices = s.notices := rfl
@[simp] theorem State.setOrders_noticeLost (l : List Order) : (s.setOrders l).noticeLost = s.noticeLost := rfl
@[simp] theorem State.setOrders_replies (l : List Order) : (s.setOrders l).replies = s.replies := rfl
@[simp] theorem State.setOrders_globals (l : List Order) : (s.setOrders l).globals = s.globals := rfl
@[simp] theorem State.setOrders_cause (l : List Order) : (s.setOrders l).cause = s.cause := rfl
@[simp] theorem State.setOrders_mode (l : List Order) : (s.setOrders l).mode = s.mode := rfl
@[simp] theorem State.setOrders_activity (l : List Order) : (s.setOrders l).activity = s.activity := rfl
@[simp] theorem State.setOrders_configKept (l : List Order) : (s.setOrders l).configKept = s.configKept := rfl
@[simp] theorem State.setOrders_ownAddr (l : List Order) : (s.setOrders l).ownAddr = s.ownAddr := rfl
@[simp] theorem State.setOrders_partTime (l : List Order) : (s.setOrders l).partTime = s.partTime := rfl
@[simp] theorem State.setOrders_straps (l : List Order) : (s.setOrders l).straps = s.straps := rfl
@[simp] theorem State.setOrders_autorun (l : List Order) : (s.setOrders l).autorun = s.autorun := rfl
@[simp] theorem State.setOrders_resetN (l : List Order) : (s.setOrders l).resetN = s.resetN := rfl
@[simp] theorem State.setOrders_supplyOk (l : List Order) : (s.setOrders l).supplyOk = s.supplyOk := rfl
@[simp] theorem State.setOrders_freeCount (l : List Order) : (s.setOrders l).freeCount = s.freeCount := rfl
@[simp] theorem State.setOrders_pending (l : List Order) : (s.setOrders l).pending = s.pending := rfl

/-! ## setFilter -/

@[simp] theorem State.setFilter_sections (v : Vector FilterRule 32) : (s.setFilter v).sections = s.sections := rfl
@[simp] theorem State.setFilter_units (v : Vector FilterRule 32) : (s.setFilter v).units = s.units := rfl
@[simp] theorem State.setFilter_frogs (v : Vector FilterRule 32) : (s.setFilter v).frogs = s.frogs := rfl
@[simp] theorem State.setFilter_vehicles (v : Vector FilterRule 32) : (s.setFilter v).vehicles = s.vehicles := rfl
@[simp] theorem State.setFilter_orders (v : Vector FilterRule 32) : (s.setFilter v).orders = s.orders := rfl
@[simp] theorem State.setFilter_filter (v : Vector FilterRule 32) : (s.setFilter v).filter = v := rfl
@[simp] theorem State.setFilter_uplink (v : Vector FilterRule 32) : (s.setFilter v).uplink = s.uplink := rfl
@[simp] theorem State.setFilter_field (v : Vector FilterRule 32) : (s.setFilter v).field = s.field := rfl
@[simp] theorem State.setFilter_notices (v : Vector FilterRule 32) : (s.setFilter v).notices = s.notices := rfl
@[simp] theorem State.setFilter_noticeLost (v : Vector FilterRule 32) : (s.setFilter v).noticeLost = s.noticeLost := rfl
@[simp] theorem State.setFilter_replies (v : Vector FilterRule 32) : (s.setFilter v).replies = s.replies := rfl
@[simp] theorem State.setFilter_globals (v : Vector FilterRule 32) : (s.setFilter v).globals = s.globals := rfl
@[simp] theorem State.setFilter_cause (v : Vector FilterRule 32) : (s.setFilter v).cause = s.cause := rfl
@[simp] theorem State.setFilter_mode (v : Vector FilterRule 32) : (s.setFilter v).mode = s.mode := rfl
@[simp] theorem State.setFilter_activity (v : Vector FilterRule 32) : (s.setFilter v).activity = s.activity := rfl
@[simp] theorem State.setFilter_configKept (v : Vector FilterRule 32) : (s.setFilter v).configKept = s.configKept := rfl
@[simp] theorem State.setFilter_ownAddr (v : Vector FilterRule 32) : (s.setFilter v).ownAddr = s.ownAddr := rfl
@[simp] theorem State.setFilter_partTime (v : Vector FilterRule 32) : (s.setFilter v).partTime = s.partTime := rfl
@[simp] theorem State.setFilter_straps (v : Vector FilterRule 32) : (s.setFilter v).straps = s.straps := rfl
@[simp] theorem State.setFilter_autorun (v : Vector FilterRule 32) : (s.setFilter v).autorun = s.autorun := rfl
@[simp] theorem State.setFilter_resetN (v : Vector FilterRule 32) : (s.setFilter v).resetN = s.resetN := rfl
@[simp] theorem State.setFilter_supplyOk (v : Vector FilterRule 32) : (s.setFilter v).supplyOk = s.supplyOk := rfl
@[simp] theorem State.setFilter_freeCount (v : Vector FilterRule 32) : (s.setFilter v).freeCount = s.freeCount := rfl
@[simp] theorem State.setFilter_pending (v : Vector FilterRule 32) : (s.setFilter v).pending = s.pending := rfl

/-! ## setUplink -/

@[simp] theorem State.setUplink_sections (p : Port) : (s.setUplink p).sections = s.sections := rfl
@[simp] theorem State.setUplink_units (p : Port) : (s.setUplink p).units = s.units := rfl
@[simp] theorem State.setUplink_frogs (p : Port) : (s.setUplink p).frogs = s.frogs := rfl
@[simp] theorem State.setUplink_vehicles (p : Port) : (s.setUplink p).vehicles = s.vehicles := rfl
@[simp] theorem State.setUplink_orders (p : Port) : (s.setUplink p).orders = s.orders := rfl
@[simp] theorem State.setUplink_filter (p : Port) : (s.setUplink p).filter = s.filter := rfl
@[simp] theorem State.setUplink_uplink (p : Port) : (s.setUplink p).uplink = p := rfl
@[simp] theorem State.setUplink_field (p : Port) : (s.setUplink p).field = s.field := rfl
@[simp] theorem State.setUplink_notices (p : Port) : (s.setUplink p).notices = s.notices := rfl
@[simp] theorem State.setUplink_noticeLost (p : Port) : (s.setUplink p).noticeLost = s.noticeLost := rfl
@[simp] theorem State.setUplink_replies (p : Port) : (s.setUplink p).replies = s.replies := rfl
@[simp] theorem State.setUplink_globals (p : Port) : (s.setUplink p).globals = s.globals := rfl
@[simp] theorem State.setUplink_cause (p : Port) : (s.setUplink p).cause = s.cause := rfl
@[simp] theorem State.setUplink_mode (p : Port) : (s.setUplink p).mode = s.mode := rfl
@[simp] theorem State.setUplink_activity (p : Port) : (s.setUplink p).activity = s.activity := rfl
@[simp] theorem State.setUplink_configKept (p : Port) : (s.setUplink p).configKept = s.configKept := rfl
@[simp] theorem State.setUplink_ownAddr (p : Port) : (s.setUplink p).ownAddr = s.ownAddr := rfl
@[simp] theorem State.setUplink_partTime (p : Port) : (s.setUplink p).partTime = s.partTime := rfl
@[simp] theorem State.setUplink_straps (p : Port) : (s.setUplink p).straps = s.straps := rfl
@[simp] theorem State.setUplink_autorun (p : Port) : (s.setUplink p).autorun = s.autorun := rfl
@[simp] theorem State.setUplink_resetN (p : Port) : (s.setUplink p).resetN = s.resetN := rfl
@[simp] theorem State.setUplink_supplyOk (p : Port) : (s.setUplink p).supplyOk = s.supplyOk := rfl
@[simp] theorem State.setUplink_freeCount (p : Port) : (s.setUplink p).freeCount = s.freeCount := rfl
@[simp] theorem State.setUplink_pending (p : Port) : (s.setUplink p).pending = s.pending := rfl

/-! ## setField -/

@[simp] theorem State.setField_sections (p : Port) : (s.setField p).sections = s.sections := rfl
@[simp] theorem State.setField_units (p : Port) : (s.setField p).units = s.units := rfl
@[simp] theorem State.setField_frogs (p : Port) : (s.setField p).frogs = s.frogs := rfl
@[simp] theorem State.setField_vehicles (p : Port) : (s.setField p).vehicles = s.vehicles := rfl
@[simp] theorem State.setField_orders (p : Port) : (s.setField p).orders = s.orders := rfl
@[simp] theorem State.setField_filter (p : Port) : (s.setField p).filter = s.filter := rfl
@[simp] theorem State.setField_uplink (p : Port) : (s.setField p).uplink = s.uplink := rfl
@[simp] theorem State.setField_field (p : Port) : (s.setField p).field = p := rfl
@[simp] theorem State.setField_notices (p : Port) : (s.setField p).notices = s.notices := rfl
@[simp] theorem State.setField_noticeLost (p : Port) : (s.setField p).noticeLost = s.noticeLost := rfl
@[simp] theorem State.setField_replies (p : Port) : (s.setField p).replies = s.replies := rfl
@[simp] theorem State.setField_globals (p : Port) : (s.setField p).globals = s.globals := rfl
@[simp] theorem State.setField_cause (p : Port) : (s.setField p).cause = s.cause := rfl
@[simp] theorem State.setField_mode (p : Port) : (s.setField p).mode = s.mode := rfl
@[simp] theorem State.setField_activity (p : Port) : (s.setField p).activity = s.activity := rfl
@[simp] theorem State.setField_configKept (p : Port) : (s.setField p).configKept = s.configKept := rfl
@[simp] theorem State.setField_ownAddr (p : Port) : (s.setField p).ownAddr = s.ownAddr := rfl
@[simp] theorem State.setField_partTime (p : Port) : (s.setField p).partTime = s.partTime := rfl
@[simp] theorem State.setField_straps (p : Port) : (s.setField p).straps = s.straps := rfl
@[simp] theorem State.setField_autorun (p : Port) : (s.setField p).autorun = s.autorun := rfl
@[simp] theorem State.setField_resetN (p : Port) : (s.setField p).resetN = s.resetN := rfl
@[simp] theorem State.setField_supplyOk (p : Port) : (s.setField p).supplyOk = s.supplyOk := rfl
@[simp] theorem State.setField_freeCount (p : Port) : (s.setField p).freeCount = s.freeCount := rfl
@[simp] theorem State.setField_pending (p : Port) : (s.setField p).pending = s.pending := rfl

/-! ## setNotices -/

@[simp] theorem State.setNotices_sections (l : List Notice) : (s.setNotices l).sections = s.sections := rfl
@[simp] theorem State.setNotices_units (l : List Notice) : (s.setNotices l).units = s.units := rfl
@[simp] theorem State.setNotices_frogs (l : List Notice) : (s.setNotices l).frogs = s.frogs := rfl
@[simp] theorem State.setNotices_vehicles (l : List Notice) : (s.setNotices l).vehicles = s.vehicles := rfl
@[simp] theorem State.setNotices_orders (l : List Notice) : (s.setNotices l).orders = s.orders := rfl
@[simp] theorem State.setNotices_filter (l : List Notice) : (s.setNotices l).filter = s.filter := rfl
@[simp] theorem State.setNotices_uplink (l : List Notice) : (s.setNotices l).uplink = s.uplink := rfl
@[simp] theorem State.setNotices_field (l : List Notice) : (s.setNotices l).field = s.field := rfl
@[simp] theorem State.setNotices_notices (l : List Notice) : (s.setNotices l).notices = l := rfl
@[simp] theorem State.setNotices_noticeLost (l : List Notice) : (s.setNotices l).noticeLost = s.noticeLost := rfl
@[simp] theorem State.setNotices_replies (l : List Notice) : (s.setNotices l).replies = s.replies := rfl
@[simp] theorem State.setNotices_globals (l : List Notice) : (s.setNotices l).globals = s.globals := rfl
@[simp] theorem State.setNotices_cause (l : List Notice) : (s.setNotices l).cause = s.cause := rfl
@[simp] theorem State.setNotices_mode (l : List Notice) : (s.setNotices l).mode = s.mode := rfl
@[simp] theorem State.setNotices_activity (l : List Notice) : (s.setNotices l).activity = s.activity := rfl
@[simp] theorem State.setNotices_configKept (l : List Notice) : (s.setNotices l).configKept = s.configKept := rfl
@[simp] theorem State.setNotices_ownAddr (l : List Notice) : (s.setNotices l).ownAddr = s.ownAddr := rfl
@[simp] theorem State.setNotices_partTime (l : List Notice) : (s.setNotices l).partTime = s.partTime := rfl
@[simp] theorem State.setNotices_straps (l : List Notice) : (s.setNotices l).straps = s.straps := rfl
@[simp] theorem State.setNotices_autorun (l : List Notice) : (s.setNotices l).autorun = s.autorun := rfl
@[simp] theorem State.setNotices_resetN (l : List Notice) : (s.setNotices l).resetN = s.resetN := rfl
@[simp] theorem State.setNotices_supplyOk (l : List Notice) : (s.setNotices l).supplyOk = s.supplyOk := rfl
@[simp] theorem State.setNotices_freeCount (l : List Notice) : (s.setNotices l).freeCount = s.freeCount := rfl
@[simp] theorem State.setNotices_pending (l : List Notice) : (s.setNotices l).pending = s.pending := rfl

/-! ## setNoticeLost -/

@[simp] theorem State.setNoticeLost_sections (b : Bool) : (s.setNoticeLost b).sections = s.sections := rfl
@[simp] theorem State.setNoticeLost_units (b : Bool) : (s.setNoticeLost b).units = s.units := rfl
@[simp] theorem State.setNoticeLost_frogs (b : Bool) : (s.setNoticeLost b).frogs = s.frogs := rfl
@[simp] theorem State.setNoticeLost_vehicles (b : Bool) : (s.setNoticeLost b).vehicles = s.vehicles := rfl
@[simp] theorem State.setNoticeLost_orders (b : Bool) : (s.setNoticeLost b).orders = s.orders := rfl
@[simp] theorem State.setNoticeLost_filter (b : Bool) : (s.setNoticeLost b).filter = s.filter := rfl
@[simp] theorem State.setNoticeLost_uplink (b : Bool) : (s.setNoticeLost b).uplink = s.uplink := rfl
@[simp] theorem State.setNoticeLost_field (b : Bool) : (s.setNoticeLost b).field = s.field := rfl
@[simp] theorem State.setNoticeLost_notices (b : Bool) : (s.setNoticeLost b).notices = s.notices := rfl
@[simp] theorem State.setNoticeLost_noticeLost (b : Bool) : (s.setNoticeLost b).noticeLost = b := rfl
@[simp] theorem State.setNoticeLost_replies (b : Bool) : (s.setNoticeLost b).replies = s.replies := rfl
@[simp] theorem State.setNoticeLost_globals (b : Bool) : (s.setNoticeLost b).globals = s.globals := rfl
@[simp] theorem State.setNoticeLost_cause (b : Bool) : (s.setNoticeLost b).cause = s.cause := rfl
@[simp] theorem State.setNoticeLost_mode (b : Bool) : (s.setNoticeLost b).mode = s.mode := rfl
@[simp] theorem State.setNoticeLost_activity (b : Bool) : (s.setNoticeLost b).activity = s.activity := rfl
@[simp] theorem State.setNoticeLost_configKept (b : Bool) : (s.setNoticeLost b).configKept = s.configKept := rfl
@[simp] theorem State.setNoticeLost_ownAddr (b : Bool) : (s.setNoticeLost b).ownAddr = s.ownAddr := rfl
@[simp] theorem State.setNoticeLost_partTime (b : Bool) : (s.setNoticeLost b).partTime = s.partTime := rfl
@[simp] theorem State.setNoticeLost_straps (b : Bool) : (s.setNoticeLost b).straps = s.straps := rfl
@[simp] theorem State.setNoticeLost_autorun (b : Bool) : (s.setNoticeLost b).autorun = s.autorun := rfl
@[simp] theorem State.setNoticeLost_resetN (b : Bool) : (s.setNoticeLost b).resetN = s.resetN := rfl
@[simp] theorem State.setNoticeLost_supplyOk (b : Bool) : (s.setNoticeLost b).supplyOk = s.supplyOk := rfl
@[simp] theorem State.setNoticeLost_freeCount (b : Bool) : (s.setNoticeLost b).freeCount = s.freeCount := rfl
@[simp] theorem State.setNoticeLost_pending (b : Bool) : (s.setNoticeLost b).pending = s.pending := rfl

/-! ## setReplies -/

@[simp] theorem State.setReplies_sections (l : List Reply) : (s.setReplies l).sections = s.sections := rfl
@[simp] theorem State.setReplies_units (l : List Reply) : (s.setReplies l).units = s.units := rfl
@[simp] theorem State.setReplies_frogs (l : List Reply) : (s.setReplies l).frogs = s.frogs := rfl
@[simp] theorem State.setReplies_vehicles (l : List Reply) : (s.setReplies l).vehicles = s.vehicles := rfl
@[simp] theorem State.setReplies_orders (l : List Reply) : (s.setReplies l).orders = s.orders := rfl
@[simp] theorem State.setReplies_filter (l : List Reply) : (s.setReplies l).filter = s.filter := rfl
@[simp] theorem State.setReplies_uplink (l : List Reply) : (s.setReplies l).uplink = s.uplink := rfl
@[simp] theorem State.setReplies_field (l : List Reply) : (s.setReplies l).field = s.field := rfl
@[simp] theorem State.setReplies_notices (l : List Reply) : (s.setReplies l).notices = s.notices := rfl
@[simp] theorem State.setReplies_noticeLost (l : List Reply) : (s.setReplies l).noticeLost = s.noticeLost := rfl
@[simp] theorem State.setReplies_replies (l : List Reply) : (s.setReplies l).replies = l := rfl
@[simp] theorem State.setReplies_globals (l : List Reply) : (s.setReplies l).globals = s.globals := rfl
@[simp] theorem State.setReplies_cause (l : List Reply) : (s.setReplies l).cause = s.cause := rfl
@[simp] theorem State.setReplies_mode (l : List Reply) : (s.setReplies l).mode = s.mode := rfl
@[simp] theorem State.setReplies_activity (l : List Reply) : (s.setReplies l).activity = s.activity := rfl
@[simp] theorem State.setReplies_configKept (l : List Reply) : (s.setReplies l).configKept = s.configKept := rfl
@[simp] theorem State.setReplies_ownAddr (l : List Reply) : (s.setReplies l).ownAddr = s.ownAddr := rfl
@[simp] theorem State.setReplies_partTime (l : List Reply) : (s.setReplies l).partTime = s.partTime := rfl
@[simp] theorem State.setReplies_straps (l : List Reply) : (s.setReplies l).straps = s.straps := rfl
@[simp] theorem State.setReplies_autorun (l : List Reply) : (s.setReplies l).autorun = s.autorun := rfl
@[simp] theorem State.setReplies_resetN (l : List Reply) : (s.setReplies l).resetN = s.resetN := rfl
@[simp] theorem State.setReplies_supplyOk (l : List Reply) : (s.setReplies l).supplyOk = s.supplyOk := rfl
@[simp] theorem State.setReplies_freeCount (l : List Reply) : (s.setReplies l).freeCount = s.freeCount := rfl
@[simp] theorem State.setReplies_pending (l : List Reply) : (s.setReplies l).pending = s.pending := rfl

/-! ## setGlobals -/

@[simp] theorem State.setGlobals_sections (g : Globals) : (s.setGlobals g).sections = s.sections := rfl
@[simp] theorem State.setGlobals_units (g : Globals) : (s.setGlobals g).units = s.units := rfl
@[simp] theorem State.setGlobals_frogs (g : Globals) : (s.setGlobals g).frogs = s.frogs := rfl
@[simp] theorem State.setGlobals_vehicles (g : Globals) : (s.setGlobals g).vehicles = s.vehicles := rfl
@[simp] theorem State.setGlobals_orders (g : Globals) : (s.setGlobals g).orders = s.orders := rfl
@[simp] theorem State.setGlobals_filter (g : Globals) : (s.setGlobals g).filter = s.filter := rfl
@[simp] theorem State.setGlobals_uplink (g : Globals) : (s.setGlobals g).uplink = s.uplink := rfl
@[simp] theorem State.setGlobals_field (g : Globals) : (s.setGlobals g).field = s.field := rfl
@[simp] theorem State.setGlobals_notices (g : Globals) : (s.setGlobals g).notices = s.notices := rfl
@[simp] theorem State.setGlobals_noticeLost (g : Globals) : (s.setGlobals g).noticeLost = s.noticeLost := rfl
@[simp] theorem State.setGlobals_replies (g : Globals) : (s.setGlobals g).replies = s.replies := rfl
@[simp] theorem State.setGlobals_globals (g : Globals) : (s.setGlobals g).globals = g := rfl
@[simp] theorem State.setGlobals_cause (g : Globals) : (s.setGlobals g).cause = s.cause := rfl
@[simp] theorem State.setGlobals_mode (g : Globals) : (s.setGlobals g).mode = s.mode := rfl
@[simp] theorem State.setGlobals_activity (g : Globals) : (s.setGlobals g).activity = s.activity := rfl
@[simp] theorem State.setGlobals_configKept (g : Globals) : (s.setGlobals g).configKept = s.configKept := rfl
@[simp] theorem State.setGlobals_ownAddr (g : Globals) : (s.setGlobals g).ownAddr = s.ownAddr := rfl
@[simp] theorem State.setGlobals_partTime (g : Globals) : (s.setGlobals g).partTime = s.partTime := rfl
@[simp] theorem State.setGlobals_straps (g : Globals) : (s.setGlobals g).straps = s.straps := rfl
@[simp] theorem State.setGlobals_autorun (g : Globals) : (s.setGlobals g).autorun = s.autorun := rfl
@[simp] theorem State.setGlobals_resetN (g : Globals) : (s.setGlobals g).resetN = s.resetN := rfl
@[simp] theorem State.setGlobals_supplyOk (g : Globals) : (s.setGlobals g).supplyOk = s.supplyOk := rfl
@[simp] theorem State.setGlobals_freeCount (g : Globals) : (s.setGlobals g).freeCount = s.freeCount := rfl
@[simp] theorem State.setGlobals_pending (g : Globals) : (s.setGlobals g).pending = s.pending := rfl

/-! ## setActivity -/

@[simp] theorem State.setActivity_sections (a : Activity) : (s.setActivity a).sections = s.sections := rfl
@[simp] theorem State.setActivity_units (a : Activity) : (s.setActivity a).units = s.units := rfl
@[simp] theorem State.setActivity_frogs (a : Activity) : (s.setActivity a).frogs = s.frogs := rfl
@[simp] theorem State.setActivity_vehicles (a : Activity) : (s.setActivity a).vehicles = s.vehicles := rfl
@[simp] theorem State.setActivity_orders (a : Activity) : (s.setActivity a).orders = s.orders := rfl
@[simp] theorem State.setActivity_filter (a : Activity) : (s.setActivity a).filter = s.filter := rfl
@[simp] theorem State.setActivity_uplink (a : Activity) : (s.setActivity a).uplink = s.uplink := rfl
@[simp] theorem State.setActivity_field (a : Activity) : (s.setActivity a).field = s.field := rfl
@[simp] theorem State.setActivity_notices (a : Activity) : (s.setActivity a).notices = s.notices := rfl
@[simp] theorem State.setActivity_noticeLost (a : Activity) : (s.setActivity a).noticeLost = s.noticeLost := rfl
@[simp] theorem State.setActivity_replies (a : Activity) : (s.setActivity a).replies = s.replies := rfl
@[simp] theorem State.setActivity_globals (a : Activity) : (s.setActivity a).globals = s.globals := rfl
@[simp] theorem State.setActivity_cause (a : Activity) : (s.setActivity a).cause = s.cause := rfl
@[simp] theorem State.setActivity_mode (a : Activity) : (s.setActivity a).mode = s.mode := rfl
@[simp] theorem State.setActivity_activity (a : Activity) : (s.setActivity a).activity = a := rfl
@[simp] theorem State.setActivity_configKept (a : Activity) : (s.setActivity a).configKept = s.configKept := rfl
@[simp] theorem State.setActivity_ownAddr (a : Activity) : (s.setActivity a).ownAddr = s.ownAddr := rfl
@[simp] theorem State.setActivity_partTime (a : Activity) : (s.setActivity a).partTime = s.partTime := rfl
@[simp] theorem State.setActivity_straps (a : Activity) : (s.setActivity a).straps = s.straps := rfl
@[simp] theorem State.setActivity_autorun (a : Activity) : (s.setActivity a).autorun = s.autorun := rfl
@[simp] theorem State.setActivity_resetN (a : Activity) : (s.setActivity a).resetN = s.resetN := rfl
@[simp] theorem State.setActivity_supplyOk (a : Activity) : (s.setActivity a).supplyOk = s.supplyOk := rfl
@[simp] theorem State.setActivity_freeCount (a : Activity) : (s.setActivity a).freeCount = s.freeCount := rfl
@[simp] theorem State.setActivity_pending (a : Activity) : (s.setActivity a).pending = s.pending := rfl

/-! ## setPartTime -/

@[simp] theorem State.setPartTime_sections (t : Time) : (s.setPartTime t).sections = s.sections := rfl
@[simp] theorem State.setPartTime_units (t : Time) : (s.setPartTime t).units = s.units := rfl
@[simp] theorem State.setPartTime_frogs (t : Time) : (s.setPartTime t).frogs = s.frogs := rfl
@[simp] theorem State.setPartTime_vehicles (t : Time) : (s.setPartTime t).vehicles = s.vehicles := rfl
@[simp] theorem State.setPartTime_orders (t : Time) : (s.setPartTime t).orders = s.orders := rfl
@[simp] theorem State.setPartTime_filter (t : Time) : (s.setPartTime t).filter = s.filter := rfl
@[simp] theorem State.setPartTime_uplink (t : Time) : (s.setPartTime t).uplink = s.uplink := rfl
@[simp] theorem State.setPartTime_field (t : Time) : (s.setPartTime t).field = s.field := rfl
@[simp] theorem State.setPartTime_notices (t : Time) : (s.setPartTime t).notices = s.notices := rfl
@[simp] theorem State.setPartTime_noticeLost (t : Time) : (s.setPartTime t).noticeLost = s.noticeLost := rfl
@[simp] theorem State.setPartTime_replies (t : Time) : (s.setPartTime t).replies = s.replies := rfl
@[simp] theorem State.setPartTime_globals (t : Time) : (s.setPartTime t).globals = s.globals := rfl
@[simp] theorem State.setPartTime_cause (t : Time) : (s.setPartTime t).cause = s.cause := rfl
@[simp] theorem State.setPartTime_mode (t : Time) : (s.setPartTime t).mode = s.mode := rfl
@[simp] theorem State.setPartTime_activity (t : Time) : (s.setPartTime t).activity = s.activity := rfl
@[simp] theorem State.setPartTime_configKept (t : Time) : (s.setPartTime t).configKept = s.configKept := rfl
@[simp] theorem State.setPartTime_ownAddr (t : Time) : (s.setPartTime t).ownAddr = s.ownAddr := rfl
@[simp] theorem State.setPartTime_partTime (t : Time) : (s.setPartTime t).partTime = t := rfl
@[simp] theorem State.setPartTime_straps (t : Time) : (s.setPartTime t).straps = s.straps := rfl
@[simp] theorem State.setPartTime_autorun (t : Time) : (s.setPartTime t).autorun = s.autorun := rfl
@[simp] theorem State.setPartTime_resetN (t : Time) : (s.setPartTime t).resetN = s.resetN := rfl
@[simp] theorem State.setPartTime_supplyOk (t : Time) : (s.setPartTime t).supplyOk = s.supplyOk := rfl
@[simp] theorem State.setPartTime_freeCount (t : Time) : (s.setPartTime t).freeCount = s.freeCount := rfl
@[simp] theorem State.setPartTime_pending (t : Time) : (s.setPartTime t).pending = s.pending := rfl

/-! ## setFreeCount -/

@[simp] theorem State.setFreeCount_sections (n : Nat) : (s.setFreeCount n).sections = s.sections := rfl
@[simp] theorem State.setFreeCount_units (n : Nat) : (s.setFreeCount n).units = s.units := rfl
@[simp] theorem State.setFreeCount_frogs (n : Nat) : (s.setFreeCount n).frogs = s.frogs := rfl
@[simp] theorem State.setFreeCount_vehicles (n : Nat) : (s.setFreeCount n).vehicles = s.vehicles := rfl
@[simp] theorem State.setFreeCount_orders (n : Nat) : (s.setFreeCount n).orders = s.orders := rfl
@[simp] theorem State.setFreeCount_filter (n : Nat) : (s.setFreeCount n).filter = s.filter := rfl
@[simp] theorem State.setFreeCount_uplink (n : Nat) : (s.setFreeCount n).uplink = s.uplink := rfl
@[simp] theorem State.setFreeCount_field (n : Nat) : (s.setFreeCount n).field = s.field := rfl
@[simp] theorem State.setFreeCount_notices (n : Nat) : (s.setFreeCount n).notices = s.notices := rfl
@[simp] theorem State.setFreeCount_noticeLost (n : Nat) : (s.setFreeCount n).noticeLost = s.noticeLost := rfl
@[simp] theorem State.setFreeCount_replies (n : Nat) : (s.setFreeCount n).replies = s.replies := rfl
@[simp] theorem State.setFreeCount_globals (n : Nat) : (s.setFreeCount n).globals = s.globals := rfl
@[simp] theorem State.setFreeCount_cause (n : Nat) : (s.setFreeCount n).cause = s.cause := rfl
@[simp] theorem State.setFreeCount_mode (n : Nat) : (s.setFreeCount n).mode = s.mode := rfl
@[simp] theorem State.setFreeCount_activity (n : Nat) : (s.setFreeCount n).activity = s.activity := rfl
@[simp] theorem State.setFreeCount_configKept (n : Nat) : (s.setFreeCount n).configKept = s.configKept := rfl
@[simp] theorem State.setFreeCount_ownAddr (n : Nat) : (s.setFreeCount n).ownAddr = s.ownAddr := rfl
@[simp] theorem State.setFreeCount_partTime (n : Nat) : (s.setFreeCount n).partTime = s.partTime := rfl
@[simp] theorem State.setFreeCount_straps (n : Nat) : (s.setFreeCount n).straps = s.straps := rfl
@[simp] theorem State.setFreeCount_autorun (n : Nat) : (s.setFreeCount n).autorun = s.autorun := rfl
@[simp] theorem State.setFreeCount_resetN (n : Nat) : (s.setFreeCount n).resetN = s.resetN := rfl
@[simp] theorem State.setFreeCount_supplyOk (n : Nat) : (s.setFreeCount n).supplyOk = s.supplyOk := rfl
@[simp] theorem State.setFreeCount_freeCount (n : Nat) : (s.setFreeCount n).freeCount = n := rfl
@[simp] theorem State.setFreeCount_pending (n : Nat) : (s.setFreeCount n).pending = s.pending := rfl

/-! ## setPending -/

@[simp] theorem State.setPending_sections (l : List Instr) : (s.setPending l).sections = s.sections := rfl
@[simp] theorem State.setPending_units (l : List Instr) : (s.setPending l).units = s.units := rfl
@[simp] theorem State.setPending_frogs (l : List Instr) : (s.setPending l).frogs = s.frogs := rfl
@[simp] theorem State.setPending_vehicles (l : List Instr) : (s.setPending l).vehicles = s.vehicles := rfl
@[simp] theorem State.setPending_orders (l : List Instr) : (s.setPending l).orders = s.orders := rfl
@[simp] theorem State.setPending_filter (l : List Instr) : (s.setPending l).filter = s.filter := rfl
@[simp] theorem State.setPending_uplink (l : List Instr) : (s.setPending l).uplink = s.uplink := rfl
@[simp] theorem State.setPending_field (l : List Instr) : (s.setPending l).field = s.field := rfl
@[simp] theorem State.setPending_notices (l : List Instr) : (s.setPending l).notices = s.notices := rfl
@[simp] theorem State.setPending_noticeLost (l : List Instr) : (s.setPending l).noticeLost = s.noticeLost := rfl
@[simp] theorem State.setPending_replies (l : List Instr) : (s.setPending l).replies = s.replies := rfl
@[simp] theorem State.setPending_globals (l : List Instr) : (s.setPending l).globals = s.globals := rfl
@[simp] theorem State.setPending_cause (l : List Instr) : (s.setPending l).cause = s.cause := rfl
@[simp] theorem State.setPending_mode (l : List Instr) : (s.setPending l).mode = s.mode := rfl
@[simp] theorem State.setPending_activity (l : List Instr) : (s.setPending l).activity = s.activity := rfl
@[simp] theorem State.setPending_configKept (l : List Instr) : (s.setPending l).configKept = s.configKept := rfl
@[simp] theorem State.setPending_ownAddr (l : List Instr) : (s.setPending l).ownAddr = s.ownAddr := rfl
@[simp] theorem State.setPending_partTime (l : List Instr) : (s.setPending l).partTime = s.partTime := rfl
@[simp] theorem State.setPending_straps (l : List Instr) : (s.setPending l).straps = s.straps := rfl
@[simp] theorem State.setPending_autorun (l : List Instr) : (s.setPending l).autorun = s.autorun := rfl
@[simp] theorem State.setPending_resetN (l : List Instr) : (s.setPending l).resetN = s.resetN := rfl
@[simp] theorem State.setPending_supplyOk (l : List Instr) : (s.setPending l).supplyOk = s.supplyOk := rfl
@[simp] theorem State.setPending_freeCount (l : List Instr) : (s.setPending l).freeCount = s.freeCount := rfl
@[simp] theorem State.setPending_pending (l : List Instr) : (s.setPending l).pending = l := rfl

/-! ## putSect -/

@[simp] theorem State.putSect_units (i : SectionIx) (x : Option Sect) : (s.putSect i x).units = s.units := rfl
@[simp] theorem State.putSect_frogs (i : SectionIx) (x : Option Sect) : (s.putSect i x).frogs = s.frogs := rfl
@[simp] theorem State.putSect_vehicles (i : SectionIx) (x : Option Sect) : (s.putSect i x).vehicles = s.vehicles := rfl
@[simp] theorem State.putSect_orders (i : SectionIx) (x : Option Sect) : (s.putSect i x).orders = s.orders := rfl
@[simp] theorem State.putSect_filter (i : SectionIx) (x : Option Sect) : (s.putSect i x).filter = s.filter := rfl
@[simp] theorem State.putSect_uplink (i : SectionIx) (x : Option Sect) : (s.putSect i x).uplink = s.uplink := rfl
@[simp] theorem State.putSect_field (i : SectionIx) (x : Option Sect) : (s.putSect i x).field = s.field := rfl
@[simp] theorem State.putSect_notices (i : SectionIx) (x : Option Sect) : (s.putSect i x).notices = s.notices := rfl
@[simp] theorem State.putSect_noticeLost (i : SectionIx) (x : Option Sect) : (s.putSect i x).noticeLost = s.noticeLost := rfl
@[simp] theorem State.putSect_replies (i : SectionIx) (x : Option Sect) : (s.putSect i x).replies = s.replies := rfl
@[simp] theorem State.putSect_globals (i : SectionIx) (x : Option Sect) : (s.putSect i x).globals = s.globals := rfl
@[simp] theorem State.putSect_cause (i : SectionIx) (x : Option Sect) : (s.putSect i x).cause = s.cause := rfl
@[simp] theorem State.putSect_mode (i : SectionIx) (x : Option Sect) : (s.putSect i x).mode = s.mode := rfl
@[simp] theorem State.putSect_activity (i : SectionIx) (x : Option Sect) : (s.putSect i x).activity = s.activity := rfl
@[simp] theorem State.putSect_configKept (i : SectionIx) (x : Option Sect) : (s.putSect i x).configKept = s.configKept := rfl
@[simp] theorem State.putSect_ownAddr (i : SectionIx) (x : Option Sect) : (s.putSect i x).ownAddr = s.ownAddr := rfl
@[simp] theorem State.putSect_partTime (i : SectionIx) (x : Option Sect) : (s.putSect i x).partTime = s.partTime := rfl
@[simp] theorem State.putSect_straps (i : SectionIx) (x : Option Sect) : (s.putSect i x).straps = s.straps := rfl
@[simp] theorem State.putSect_autorun (i : SectionIx) (x : Option Sect) : (s.putSect i x).autorun = s.autorun := rfl
@[simp] theorem State.putSect_resetN (i : SectionIx) (x : Option Sect) : (s.putSect i x).resetN = s.resetN := rfl
@[simp] theorem State.putSect_supplyOk (i : SectionIx) (x : Option Sect) : (s.putSect i x).supplyOk = s.supplyOk := rfl
@[simp] theorem State.putSect_freeCount (i : SectionIx) (x : Option Sect) : (s.putSect i x).freeCount = s.freeCount := rfl
@[simp] theorem State.putSect_pending (i : SectionIx) (x : Option Sect) : (s.putSect i x).pending = s.pending := rfl

/-! ## putFrog -/

@[simp] theorem State.putFrog_sections (f : FrogIx) (x : Option Frog) : (s.putFrog f x).sections = s.sections := rfl
@[simp] theorem State.putFrog_units (f : FrogIx) (x : Option Frog) : (s.putFrog f x).units = s.units := rfl
@[simp] theorem State.putFrog_vehicles (f : FrogIx) (x : Option Frog) : (s.putFrog f x).vehicles = s.vehicles := rfl
@[simp] theorem State.putFrog_orders (f : FrogIx) (x : Option Frog) : (s.putFrog f x).orders = s.orders := rfl
@[simp] theorem State.putFrog_filter (f : FrogIx) (x : Option Frog) : (s.putFrog f x).filter = s.filter := rfl
@[simp] theorem State.putFrog_uplink (f : FrogIx) (x : Option Frog) : (s.putFrog f x).uplink = s.uplink := rfl
@[simp] theorem State.putFrog_field (f : FrogIx) (x : Option Frog) : (s.putFrog f x).field = s.field := rfl
@[simp] theorem State.putFrog_notices (f : FrogIx) (x : Option Frog) : (s.putFrog f x).notices = s.notices := rfl
@[simp] theorem State.putFrog_noticeLost (f : FrogIx) (x : Option Frog) : (s.putFrog f x).noticeLost = s.noticeLost := rfl
@[simp] theorem State.putFrog_replies (f : FrogIx) (x : Option Frog) : (s.putFrog f x).replies = s.replies := rfl
@[simp] theorem State.putFrog_globals (f : FrogIx) (x : Option Frog) : (s.putFrog f x).globals = s.globals := rfl
@[simp] theorem State.putFrog_cause (f : FrogIx) (x : Option Frog) : (s.putFrog f x).cause = s.cause := rfl
@[simp] theorem State.putFrog_mode (f : FrogIx) (x : Option Frog) : (s.putFrog f x).mode = s.mode := rfl
@[simp] theorem State.putFrog_activity (f : FrogIx) (x : Option Frog) : (s.putFrog f x).activity = s.activity := rfl
@[simp] theorem State.putFrog_configKept (f : FrogIx) (x : Option Frog) : (s.putFrog f x).configKept = s.configKept := rfl
@[simp] theorem State.putFrog_ownAddr (f : FrogIx) (x : Option Frog) : (s.putFrog f x).ownAddr = s.ownAddr := rfl
@[simp] theorem State.putFrog_partTime (f : FrogIx) (x : Option Frog) : (s.putFrog f x).partTime = s.partTime := rfl
@[simp] theorem State.putFrog_straps (f : FrogIx) (x : Option Frog) : (s.putFrog f x).straps = s.straps := rfl
@[simp] theorem State.putFrog_autorun (f : FrogIx) (x : Option Frog) : (s.putFrog f x).autorun = s.autorun := rfl
@[simp] theorem State.putFrog_resetN (f : FrogIx) (x : Option Frog) : (s.putFrog f x).resetN = s.resetN := rfl
@[simp] theorem State.putFrog_supplyOk (f : FrogIx) (x : Option Frog) : (s.putFrog f x).supplyOk = s.supplyOk := rfl
@[simp] theorem State.putFrog_freeCount (f : FrogIx) (x : Option Frog) : (s.putFrog f x).freeCount = s.freeCount := rfl
@[simp] theorem State.putFrog_pending (f : FrogIx) (x : Option Frog) : (s.putFrog f x).pending = s.pending := rfl

/-! ## putUnit -/

@[simp] theorem State.putUnit_sections (u : UnitIx) (x : TestUnit) : (s.putUnit u x).sections = s.sections := rfl
@[simp] theorem State.putUnit_frogs (u : UnitIx) (x : TestUnit) : (s.putUnit u x).frogs = s.frogs := rfl
@[simp] theorem State.putUnit_vehicles (u : UnitIx) (x : TestUnit) : (s.putUnit u x).vehicles = s.vehicles := rfl
@[simp] theorem State.putUnit_orders (u : UnitIx) (x : TestUnit) : (s.putUnit u x).orders = s.orders := rfl
@[simp] theorem State.putUnit_filter (u : UnitIx) (x : TestUnit) : (s.putUnit u x).filter = s.filter := rfl
@[simp] theorem State.putUnit_uplink (u : UnitIx) (x : TestUnit) : (s.putUnit u x).uplink = s.uplink := rfl
@[simp] theorem State.putUnit_field (u : UnitIx) (x : TestUnit) : (s.putUnit u x).field = s.field := rfl
@[simp] theorem State.putUnit_notices (u : UnitIx) (x : TestUnit) : (s.putUnit u x).notices = s.notices := rfl
@[simp] theorem State.putUnit_noticeLost (u : UnitIx) (x : TestUnit) : (s.putUnit u x).noticeLost = s.noticeLost := rfl
@[simp] theorem State.putUnit_replies (u : UnitIx) (x : TestUnit) : (s.putUnit u x).replies = s.replies := rfl
@[simp] theorem State.putUnit_globals (u : UnitIx) (x : TestUnit) : (s.putUnit u x).globals = s.globals := rfl
@[simp] theorem State.putUnit_cause (u : UnitIx) (x : TestUnit) : (s.putUnit u x).cause = s.cause := rfl
@[simp] theorem State.putUnit_mode (u : UnitIx) (x : TestUnit) : (s.putUnit u x).mode = s.mode := rfl
@[simp] theorem State.putUnit_activity (u : UnitIx) (x : TestUnit) : (s.putUnit u x).activity = s.activity := rfl
@[simp] theorem State.putUnit_configKept (u : UnitIx) (x : TestUnit) : (s.putUnit u x).configKept = s.configKept := rfl
@[simp] theorem State.putUnit_ownAddr (u : UnitIx) (x : TestUnit) : (s.putUnit u x).ownAddr = s.ownAddr := rfl
@[simp] theorem State.putUnit_partTime (u : UnitIx) (x : TestUnit) : (s.putUnit u x).partTime = s.partTime := rfl
@[simp] theorem State.putUnit_straps (u : UnitIx) (x : TestUnit) : (s.putUnit u x).straps = s.straps := rfl
@[simp] theorem State.putUnit_autorun (u : UnitIx) (x : TestUnit) : (s.putUnit u x).autorun = s.autorun := rfl
@[simp] theorem State.putUnit_resetN (u : UnitIx) (x : TestUnit) : (s.putUnit u x).resetN = s.resetN := rfl
@[simp] theorem State.putUnit_supplyOk (u : UnitIx) (x : TestUnit) : (s.putUnit u x).supplyOk = s.supplyOk := rfl
@[simp] theorem State.putUnit_freeCount (u : UnitIx) (x : TestUnit) : (s.putUnit u x).freeCount = s.freeCount := rfl
@[simp] theorem State.putUnit_pending (u : UnitIx) (x : TestUnit) : (s.putUnit u x).pending = s.pending := rfl

/-! ## What the tables read as -/

/-- An entry of a table after one entry is written. -/
theorem get_set_table {α : Type} {n : Nat} (v : Vector α n) (i j : Fin n) (x : α) :
    (v.set i.val x i.isLt).get j = if j = i then x else v.get j := by
  by_cases h : j = i
  · subst h; simp [Vector.get_eq_getElem]
  · have h' : ¬ i.val = j.val := fun e => h (Fin.ext e.symm)
    simp [Vector.get_eq_getElem, h, h']

/-- An entry of a mapped table. -/
@[simp] theorem get_mapTable {α β : Type} {n : Nat} (g : α → β) (v : Vector α n) (i : Fin n) :
    (mapTable g v).get i = g (v.get i) := by
  simp [mapTable, Vector.get_eq_getElem]

/-- An entry of a table of equal entries. -/
@[simp] theorem get_replicate_table {α : Type} {n : Nat} (x : α) (i : Fin n) : (Vector.replicate n x).get i = x := by
  simp [Vector.get_eq_getElem]

theorem State.sect_putSect (i j : SectionIx) (x : Option Sect) :
    (s.putSect i x).sect j = if j = i then x else s.sect j := get_set_table s.sections i j x

@[simp] theorem State.sect_putSect_same (i : SectionIx) (x : Option Sect) : (s.putSect i x).sect i = x := by
  simp [State.sect_putSect]

theorem State.frog_putFrog (f g : FrogIx) (x : Option Frog) :
    (s.putFrog f x).frog g = if g = f then x else s.frog g := get_set_table s.frogs f g x

@[simp] theorem State.frog_putFrog_same (f : FrogIx) (x : Option Frog) : (s.putFrog f x).frog f = x := by
  simp [State.frog_putFrog]

theorem State.unit_putUnit (u w : UnitIx) (x : TestUnit) :
    (s.putUnit u x).unit w = if w = u then x else s.unit w := get_set_table s.units u w x

@[simp] theorem State.unit_putUnit_same (u : UnitIx) (x : TestUnit) : (s.putUnit u x).unit u = x := by
  simp [State.unit_putUnit]

@[simp] theorem State.sect_setFrogs (v : Vector (Option Frog) 64) (j : SectionIx) : (s.setFrogs v).sect j = s.sect j := rfl
@[simp] theorem State.sect_setUnits (v : Vector TestUnit 12) (j : SectionIx) : (s.setUnits v).sect j = s.sect j := rfl
@[simp] theorem State.sect_setVehicles (l : List Vehicle) (j : SectionIx) : (s.setVehicles l).sect j = s.sect j := rfl
@[simp] theorem State.sect_setOrders (l : List Order) (j : SectionIx) : (s.setOrders l).sect j = s.sect j := rfl
@[simp] theorem State.sect_setFilter (v : Vector FilterRule 32) (j : SectionIx) : (s.setFilter v).sect j = s.sect j := rfl
@[simp] theorem State.sect_setUplink (p : Port) (j : SectionIx) : (s.setUplink p).sect j = s.sect j := rfl
@[simp] theorem State.sect_setField (p : Port) (j : SectionIx) : (s.setField p).sect j = s.sect j := rfl
@[simp] theorem State.sect_setNotices (l : List Notice) (j : SectionIx) : (s.setNotices l).sect j = s.sect j := rfl
@[simp] theorem State.sect_setNoticeLost (b : Bool) (j : SectionIx) : (s.setNoticeLost b).sect j = s.sect j := rfl
@[simp] theorem State.sect_setReplies (l : List Reply) (j : SectionIx) : (s.setReplies l).sect j = s.sect j := rfl
@[simp] theorem State.sect_setGlobals (g : Globals) (j : SectionIx) : (s.setGlobals g).sect j = s.sect j := rfl
@[simp] theorem State.sect_setActivity (a : Activity) (j : SectionIx) : (s.setActivity a).sect j = s.sect j := rfl
@[simp] theorem State.sect_setPartTime (t : Time) (j : SectionIx) : (s.setPartTime t).sect j = s.sect j := rfl
@[simp] theorem State.sect_setFreeCount (n : Nat) (j : SectionIx) : (s.setFreeCount n).sect j = s.sect j := rfl
@[simp] theorem State.sect_setPending (l : List Instr) (j : SectionIx) : (s.setPending l).sect j = s.sect j := rfl
@[simp] theorem State.sect_putFrog (f : FrogIx) (x : Option Frog) (j : SectionIx) : (s.putFrog f x).sect j = s.sect j := rfl
@[simp] theorem State.sect_putUnit (u : UnitIx) (x : TestUnit) (j : SectionIx) : (s.putUnit u x).sect j = s.sect j := rfl

@[simp] theorem State.frog_setSections (v : Vector (Option Sect) 48) (j : FrogIx) : (s.setSections v).frog j = s.frog j := rfl
@[simp] theorem State.frog_setUnits (v : Vector TestUnit 12) (j : FrogIx) : (s.setUnits v).frog j = s.frog j := rfl
@[simp] theorem State.frog_setVehicles (l : List Vehicle) (j : FrogIx) : (s.setVehicles l).frog j = s.frog j := rfl
@[simp] theorem State.frog_setOrders (l : List Order) (j : FrogIx) : (s.setOrders l).frog j = s.frog j := rfl
@[simp] theorem State.frog_setFilter (v : Vector FilterRule 32) (j : FrogIx) : (s.setFilter v).frog j = s.frog j := rfl
@[simp] theorem State.frog_setUplink (p : Port) (j : FrogIx) : (s.setUplink p).frog j = s.frog j := rfl
@[simp] theorem State.frog_setField (p : Port) (j : FrogIx) : (s.setField p).frog j = s.frog j := rfl
@[simp] theorem State.frog_setNotices (l : List Notice) (j : FrogIx) : (s.setNotices l).frog j = s.frog j := rfl
@[simp] theorem State.frog_setNoticeLost (b : Bool) (j : FrogIx) : (s.setNoticeLost b).frog j = s.frog j := rfl
@[simp] theorem State.frog_setReplies (l : List Reply) (j : FrogIx) : (s.setReplies l).frog j = s.frog j := rfl
@[simp] theorem State.frog_setGlobals (g : Globals) (j : FrogIx) : (s.setGlobals g).frog j = s.frog j := rfl
@[simp] theorem State.frog_setActivity (a : Activity) (j : FrogIx) : (s.setActivity a).frog j = s.frog j := rfl
@[simp] theorem State.frog_setPartTime (t : Time) (j : FrogIx) : (s.setPartTime t).frog j = s.frog j := rfl
@[simp] theorem State.frog_setFreeCount (n : Nat) (j : FrogIx) : (s.setFreeCount n).frog j = s.frog j := rfl
@[simp] theorem State.frog_setPending (l : List Instr) (j : FrogIx) : (s.setPending l).frog j = s.frog j := rfl
@[simp] theorem State.frog_putSect (i : SectionIx) (x : Option Sect) (j : FrogIx) : (s.putSect i x).frog j = s.frog j := rfl
@[simp] theorem State.frog_putUnit (u : UnitIx) (x : TestUnit) (j : FrogIx) : (s.putUnit u x).frog j = s.frog j := rfl

@[simp] theorem State.unit_setSections (v : Vector (Option Sect) 48) (j : UnitIx) : (s.setSections v).unit j = s.unit j := rfl
@[simp] theorem State.unit_setFrogs (v : Vector (Option Frog) 64) (j : UnitIx) : (s.setFrogs v).unit j = s.unit j := rfl
@[simp] theorem State.unit_setVehicles (l : List Vehicle) (j : UnitIx) : (s.setVehicles l).unit j = s.unit j := rfl
@[simp] theorem State.unit_setOrders (l : List Order) (j : UnitIx) : (s.setOrders l).unit j = s.unit j := rfl
@[simp] theorem State.unit_setFilter (v : Vector FilterRule 32) (j : UnitIx) : (s.setFilter v).unit j = s.unit j := rfl
@[simp] theorem State.unit_setUplink (p : Port) (j : UnitIx) : (s.setUplink p).unit j = s.unit j := rfl
@[simp] theorem State.unit_setField (p : Port) (j : UnitIx) : (s.setField p).unit j = s.unit j := rfl
@[simp] theorem State.unit_setNotices (l : List Notice) (j : UnitIx) : (s.setNotices l).unit j = s.unit j := rfl
@[simp] theorem State.unit_setNoticeLost (b : Bool) (j : UnitIx) : (s.setNoticeLost b).unit j = s.unit j := rfl
@[simp] theorem State.unit_setReplies (l : List Reply) (j : UnitIx) : (s.setReplies l).unit j = s.unit j := rfl
@[simp] theorem State.unit_setGlobals (g : Globals) (j : UnitIx) : (s.setGlobals g).unit j = s.unit j := rfl
@[simp] theorem State.unit_setActivity (a : Activity) (j : UnitIx) : (s.setActivity a).unit j = s.unit j := rfl
@[simp] theorem State.unit_setPartTime (t : Time) (j : UnitIx) : (s.setPartTime t).unit j = s.unit j := rfl
@[simp] theorem State.unit_setFreeCount (n : Nat) (j : UnitIx) : (s.setFreeCount n).unit j = s.unit j := rfl
@[simp] theorem State.unit_setPending (l : List Instr) (j : UnitIx) : (s.setPending l).unit j = s.unit j := rfl
@[simp] theorem State.unit_putSect (i : SectionIx) (x : Option Sect) (j : UnitIx) : (s.putSect i x).unit j = s.unit j := rfl
@[simp] theorem State.unit_putFrog (f : FrogIx) (x : Option Frog) (j : UnitIx) : (s.putFrog f x).unit j = s.unit j := rfl

/-! ## Ports -/

@[simp] theorem State.port_putPort (p q : PortId) (x : Port) :
    (s.putPort p x).port q = if q = p then x else s.port q := by
  cases p <;> cases q <;> rfl

@[simp] theorem State.putPort_sections (p : PortId) (x : Port) : (s.putPort p x).sections = s.sections := by
  cases p <;> rfl
@[simp] theorem State.putPort_units (p : PortId) (x : Port) : (s.putPort p x).units = s.units := by
  cases p <;> rfl
@[simp] theorem State.putPort_frogs (p : PortId) (x : Port) : (s.putPort p x).frogs = s.frogs := by
  cases p <;> rfl
@[simp] theorem State.putPort_vehicles (p : PortId) (x : Port) : (s.putPort p x).vehicles = s.vehicles := by
  cases p <;> rfl
@[simp] theorem State.putPort_orders (p : PortId) (x : Port) : (s.putPort p x).orders = s.orders := by
  cases p <;> rfl
@[simp] theorem State.putPort_filter (p : PortId) (x : Port) : (s.putPort p x).filter = s.filter := by
  cases p <;> rfl
@[simp] theorem State.putPort_notices (p : PortId) (x : Port) : (s.putPort p x).notices = s.notices := by
  cases p <;> rfl
@[simp] theorem State.putPort_noticeLost (p : PortId) (x : Port) : (s.putPort p x).noticeLost = s.noticeLost := by
  cases p <;> rfl
@[simp] theorem State.putPort_replies (p : PortId) (x : Port) : (s.putPort p x).replies = s.replies := by
  cases p <;> rfl
@[simp] theorem State.putPort_globals (p : PortId) (x : Port) : (s.putPort p x).globals = s.globals := by
  cases p <;> rfl
@[simp] theorem State.putPort_cause (p : PortId) (x : Port) : (s.putPort p x).cause = s.cause := by
  cases p <;> rfl
@[simp] theorem State.putPort_mode (p : PortId) (x : Port) : (s.putPort p x).mode = s.mode := by
  cases p <;> rfl
@[simp] theorem State.putPort_activity (p : PortId) (x : Port) : (s.putPort p x).activity = s.activity := by
  cases p <;> rfl
@[simp] theorem State.putPort_configKept (p : PortId) (x : Port) : (s.putPort p x).configKept = s.configKept := by
  cases p <;> rfl
@[simp] theorem State.putPort_ownAddr (p : PortId) (x : Port) : (s.putPort p x).ownAddr = s.ownAddr := by
  cases p <;> rfl
@[simp] theorem State.putPort_partTime (p : PortId) (x : Port) : (s.putPort p x).partTime = s.partTime := by
  cases p <;> rfl
@[simp] theorem State.putPort_straps (p : PortId) (x : Port) : (s.putPort p x).straps = s.straps := by
  cases p <;> rfl
@[simp] theorem State.putPort_autorun (p : PortId) (x : Port) : (s.putPort p x).autorun = s.autorun := by
  cases p <;> rfl
@[simp] theorem State.putPort_resetN (p : PortId) (x : Port) : (s.putPort p x).resetN = s.resetN := by
  cases p <;> rfl
@[simp] theorem State.putPort_supplyOk (p : PortId) (x : Port) : (s.putPort p x).supplyOk = s.supplyOk := by
  cases p <;> rfl
@[simp] theorem State.putPort_freeCount (p : PortId) (x : Port) : (s.putPort p x).freeCount = s.freeCount := by
  cases p <;> rfl
@[simp] theorem State.putPort_pending (p : PortId) (x : Port) : (s.putPort p x).pending = s.pending := by
  cases p <;> rfl
@[simp] theorem State.sect_putPort (p : PortId) (x : Port) (j : SectionIx) : (s.putPort p x).sect j = s.sect j := by
  cases p <;> rfl
@[simp] theorem State.frog_putPort (p : PortId) (x : Port) (j : FrogIx) : (s.putPort p x).frog j = s.frog j := by
  cases p <;> rfl
@[simp] theorem State.unit_putPort (p : PortId) (x : Port) (j : UnitIx) : (s.putPort p x).unit j = s.unit j := by
  cases p <;> rfl

end Sys2Proof.Machine
end

