-- ==== Sys2Proof/Laws/Frames.lean ====
section
/-!
SUPPORT. What each shared operation leaves as it was, said once: the state behind the mask of the operation's kind of work
(Safety.lean) is the same after it as before. A field outside the mask is read off with `congrArg`.
-/

namespace Sys2Proof.Machine

variable (s : State)

/-! ## Notices -/

@[simp] theorem besideNotices_raise (b : NoticeBody) : (raise b s).besideNotices = s.besideNotices := by
  unfold raise; split <;> [rfl; (split <;> rfl)]

@[simp] theorem besideNotices_raiseSection (i : SectionIx) : (raiseSection i s).besideNotices = s.besideNotices := by
  unfold raiseSection; split <;> simp

@[simp] theorem besideNotices_raiseFrog (f : FrogIx) : (raiseFrog f s).besideNotices = s.besideNotices := by
  unfold raiseFrog; split <;> simp

@[simp] theorem besideNotices_raiseFlagSet (i : SectionIx) (fl : Option SectionFlag) :
    (raiseFlagSet i fl s).besideNotices = s.besideNotices := by
  unfold raiseFlagSet; split <;> simp

@[simp] theorem besideNotices_raiseSupplyCleared (i : SectionIx) (x : Sect) (st : SectionState) :
    (raiseSupplyCleared i x st s).besideNotices = s.besideNotices := by
  unfold raiseSupplyCleared; split <;> simp

/-- What agrees behind the notice mask agrees behind the frog mask. -/
theorem besideFrogs_of_besideNotices {s t : State} (h : t.besideNotices = s.besideNotices) :
    t.besideFrogs = s.besideFrogs := by
  unfold State.besideFrogs; rw [h]

/-- What agrees behind the frog mask agrees behind the vehicle mask. -/
theorem besideVehicles_of_besideFrogs {s t : State} (h : t.besideFrogs = s.besideFrogs) :
    t.besideVehicles = s.besideVehicles := by
  unfold State.besideVehicles; rw [h]

/-- What agrees behind the frog mask agrees behind the section mask. -/
theorem besideSections_of_besideFrogs {s t : State} (h : t.besideFrogs = s.besideFrogs) :
    t.besideSections = s.besideSections := by
  unfold State.besideSections; rw [h]

/-- What agrees behind the section mask agrees behind the mask of a frame's work. -/
theorem besideWork_of_besideSections {s t : State} (h : t.besideSections = s.besideSections) :
    t.besideWork = s.besideWork := by
  unfold State.besideWork; rw [h]

/-- What agrees behind the vehicle mask agrees behind the mask of a frame's work. -/
theorem besideWork_of_besideVehicles {s t : State} (h : t.besideVehicles = s.besideVehicles) :
    t.besideWork = s.besideWork := by
  have e : ∀ u : State, u.besideWork = { u.besideVehicles with
      sections := Vector.replicate 48 none, units := Vector.replicate 12 TestUnit.starting } := fun _ => rfl
  rw [e, e, h]

/-! ## Frog work -/

@[simp] theorem besideFrogs_raise (b : NoticeBody) : (raise b s).besideFrogs = s.besideFrogs :=
  besideFrogs_of_besideNotices (by simp)

@[simp] theorem besideFrogs_raiseSection (i : SectionIx) : (raiseSection i s).besideFrogs = s.besideFrogs :=
  besideFrogs_of_besideNotices (by simp)

@[simp] theorem besideFrogs_raiseFrog (f : FrogIx) : (raiseFrog f s).besideFrogs = s.besideFrogs :=
  besideFrogs_of_besideNotices (by simp)

@[simp] theorem besideFrogs_putFrog (f : FrogIx) (x : Option Frog) : (s.putFrog f x).besideFrogs = s.besideFrogs := rfl

@[simp] theorem besideFrogs_setOrders (l : List Order) : (s.setOrders l).besideFrogs = s.besideFrogs := rfl

@[simp] theorem besideFrogs_editFrog (f : FrogIx) (g : Frog → Frog) : (s.editFrog f g).besideFrogs = s.besideFrogs := by
  unfold State.editFrog; split <;> rfl

@[simp] theorem besideFrogs_editCapture (f : FrogIx) (g : Capture → Capture) :
    (s.editCapture f g).besideFrogs = s.besideFrogs := by
  unfold State.editCapture; simp

@[simp] theorem besideFrogs_noteFrog (f : FrogIx) (w : FrogWork) : (noteFrog f w).besideFrogs = w.1.besideFrogs := by
  unfold noteFrog; split <;> simp

theorem besideFrogs_followedBy (w : FrogWork) (g : State → FrogWork) (h : ∀ t, (g t).1.besideFrogs = t.besideFrogs) :
    (w.followedBy g).1.besideFrogs = w.1.besideFrogs := h _

@[simp] theorem besideFrogs_serveByThrow (f : FrogIx) (g : Frog) (r : Request) (rest : List Request) :
    (serveByThrow f g r rest s).1.besideFrogs = s.besideFrogs := by
  unfold serveByThrow; dsimp only; split <;> rfl

@[simp] theorem besideFrogs_checkQueue (f : FrogIx) (q : List Request) :
    (checkQueue f q s).1.besideFrogs = s.besideFrogs := by
  induction q generalizing s with
  | nil => rfl
  | cons r rest ih =>
    unfold checkQueue
    repeat' split
    all_goals first | rfl | simp [ih]

@[simp] theorem besideFrogs_checkHead (f : FrogIx) : (checkHead f s).1.besideFrogs = s.besideFrogs := by
  unfold checkHead; split <;> simp

theorem besideFrogs_foldl {α : Type} (g : State → α → State) (h : ∀ t a, (g t a).besideFrogs = t.besideFrogs)
    (l : List α) : (l.foldl g s).besideFrogs = s.besideFrogs := by
  induction l generalizing s with
  | nil => rfl
  | cons a l ih => rw [List.foldl_cons, ih, h]

@[simp] theorem besideFrogs_checkHeadsOf (i : SectionIx) : (checkHeadsOf i s).besideFrogs = s.besideFrogs := by
  unfold checkHeadsOf
  apply besideFrogs_foldl
  intro t f
  repeat' split
  all_goals simp

@[simp] theorem besideFrogs_addBlock (f : FrogIx) (r : BlockReason) : (addBlock f r s).1.besideFrogs = s.besideFrogs := by
  unfold addBlock; repeat' (first | split | dsimp only)
  all_goals simp

@[simp] theorem besideFrogs_removeBlock (f : FrogIx) (r : BlockReason) :
    (removeBlock f r s).1.besideFrogs = s.besideFrogs := by
  unfold removeBlock; repeat' (first | split | dsimp only)
  all_goals simp

@[simp] theorem besideFrogs_clearOverflowIfEmpty (f : FrogIx) :
    (clearOverflowIfEmpty f s).1.besideFrogs = s.besideFrogs := by
  unfold clearOverflowIfEmpty; repeat' split
  all_goals simp

@[simp] theorem besideFrogs_reviewDewire (f : FrogIx) : (reviewDewire f s).1.besideFrogs = s.besideFrogs := by
  unfold reviewDewire; repeat' split
  all_goals simp

@[simp] theorem besideFrogs_joinQueue (f : FrogIx) (k : RequestKind) (r : Route) :
    (joinQueue f k r s).1.besideFrogs = s.besideFrogs := by
  unfold joinQueue; repeat' (first | split | dsimp only)
  all_goals simp [FrogWork.followedBy]

@[simp] theorem besideFrogs_takePassage (f : FrogIx) (r : Route) (tag : Option VehicleNumber) (w : Tick) :
    (takePassage f r tag w s).1.besideFrogs = s.besideFrogs := by
  unfold takePassage; repeat' split
  all_goals simp

@[simp] theorem besideFrogs_dispatcherThrow (f : FrogIx) (r : Route) :
    (dispatcherThrow f r s).besideFrogs = s.besideFrogs := by
  unfold dispatcherThrow; repeat' split
  all_goals simp

@[simp] theorem besideFrogs_setHead (f : FrogIx) : (setHead f s).1.besideFrogs = s.besideFrogs := by
  unfold setHead; repeat' (first | split | dsimp only)
  all_goals simp [FrogWork.followedBy]

@[simp] theorem besideFrogs_failThrow (f : FrogIx) : (failThrow f s).1.besideFrogs = s.besideFrogs := by
  unfold failThrow; repeat' split
  all_goals simp [FrogWork.followedBy]

@[simp] theorem besideFrogs_movePosition (f : FrogIx) (p : Position) :
    (movePosition f p s).1.besideFrogs = s.besideFrogs := by
  unfold movePosition; repeat' (first | split | dsimp only)
  all_goals simp [FrogWork.followedBy]

@[simp] theorem besideFrogs_positionWork (f : FrogIx) (rep : PositionReport) :
    (positionWork f rep s).1.besideFrogs = s.besideFrogs := by
  unfold positionWork; repeat' split
  all_goals simp

@[simp] theorem besideFrogs_throwExpiry (f : FrogIx) : (throwExpiry f s).besideFrogs = s.besideFrogs := by
  unfold throwExpiry; repeat' split
  all_goals simp

@[simp] theorem besideFrogs_exitExpiry (f : FrogIx) : (exitExpiry f s).besideFrogs = s.besideFrogs := by
  unfold exitExpiry; repeat' split
  all_goals simp [FrogWork.followedBy]

@[simp] theorem besideFrogs_exitFirstPeriod (f : FrogIx) : (exitFirstPeriod f s).besideFrogs = s.besideFrogs := by
  unfold exitFirstPeriod; repeat' split
  all_goals simp

@[simp] theorem besideFrogs_frogEnding (f : FrogIx) (k : OrderKind) (accepted : Bool) :
    (frogEnding f k accepted s).besideFrogs = s.besideFrogs := by
  unfold frogEnding; repeat' split
  all_goals simp [FrogWork.followedBy]

@[simp] theorem besideFrogs_flushFrog (f : FrogIx) : (flushFrog f s).besideFrogs = s.besideFrogs := by
  unfold flushFrog; repeat' split
  all_goals simp [FrogWork.followedBy]

/-! ## The work of the vehicle table and of the skates -/

@[simp] theorem besideVehicles_setVehicles (l : List Vehicle) :
    (s.setVehicles l).besideVehicles = s.besideVehicles := rfl

@[simp] theorem besideVehicles_editVehicle (n : VehicleNumber) (g : Vehicle → Vehicle) :
    (s.editVehicle n g).besideVehicles = s.besideVehicles := rfl

@[simp] theorem besideVehicles_hearVehicle (n : VehicleNumber) :
    (hearVehicle n s).besideVehicles = s.besideVehicles := rfl

@[simp] theorem besideVehicles_raise (b : NoticeBody) : (raise b s).besideVehicles = s.besideVehicles :=
  besideVehicles_of_besideFrogs (by simp)

@[simp] theorem besideVehicles_editFrog (f : FrogIx) (g : Frog → Frog) :
    (s.editFrog f g).besideVehicles = s.besideVehicles := besideVehicles_of_besideFrogs (by simp)

@[simp] theorem besideVehicles_editCapture (f : FrogIx) (g : Capture → Capture) :
    (s.editCapture f g).besideVehicles = s.besideVehicles := besideVehicles_of_besideFrogs (by simp)

@[simp] theorem besideVehicles_putFrog (f : FrogIx) (x : Option Frog) :
    (s.putFrog f x).besideVehicles = s.besideVehicles := rfl

@[simp] theorem besideVehicles_noteFrog (f : FrogIx) (w : FrogWork) :
    (noteFrog f w).besideVehicles = w.1.besideVehicles := besideVehicles_of_besideFrogs (by simp)

@[simp] theorem besideVehicles_addBlock (f : FrogIx) (r : BlockReason) :
    (addBlock f r s).1.besideVehicles = s.besideVehicles := besideVehicles_of_besideFrogs (by simp)

@[simp] theorem besideVehicles_removeBlock (f : FrogIx) (r : BlockReason) :
    (removeBlock f r s).1.besideVehicles = s.besideVehicles := besideVehicles_of_besideFrogs (by simp)

@[simp] theorem besideVehicles_checkHead (f : FrogIx) : (checkHead f s).1.besideVehicles = s.besideVehicles :=
  besideVehicles_of_besideFrogs (by simp)

@[simp] theorem besideVehicles_clearOverflowIfEmpty (f : FrogIx) :
    (clearOverflowIfEmpty f s).1.besideVehicles = s.besideVehicles := besideVehicles_of_besideFrogs (by simp)

@[simp] theorem besideVehicles_reviewDewire (f : FrogIx) :
    (reviewDewire f s).1.besideVehicles = s.besideVehicles := besideVehicles_of_besideFrogs (by simp)

@[simp] theorem besideVehicles_takePassage (f : FrogIx) (r : Route) (tag : Option VehicleNumber) (w : Tick) :
    (takePassage f r tag w s).1.besideVehicles = s.besideVehicles := besideVehicles_of_besideFrogs (by simp)

@[simp] theorem besideVehicles_obtainVehicle (n : VehicleNumber) :
    (obtainVehicle n s).1.besideVehicles = s.besideVehicles := by
  unfold obtainVehicle; repeat' split
  all_goals simp

@[simp] theorem besideVehicles_appendFault (n : VehicleNumber) (c : FaultCode) (p : Place) :
    (appendFault n c p s).besideVehicles = s.besideVehicles := by
  unfold appendFault; simp

@[simp] theorem besideVehicles_placeVehicle (n : VehicleNumber) (i : SectionIx) :
    (placeVehicle n i s).besideVehicles = s.besideVehicles := by
  unfold placeVehicle; dsimp only; split <;> simp

@[simp] theorem besideVehicles_bounceVehicle (n : VehicleNumber) (f : FrogIx) :
    (bounceVehicle n f s).besideVehicles = s.besideVehicles := by
  unfold bounceVehicle; dsimp only; split <;> simp

@[simp] theorem besideVehicles_addDewire (f : FrogIx) : (addDewire f s).besideVehicles = s.besideVehicles := by
  unfold addDewire; simp

@[simp] theorem besideVehicles_addUntrackedDewire (f : FrogIx) :
    (addUntrackedDewire f s).besideVehicles = s.besideVehicles := by
  unfold addUntrackedDewire; simp

@[simp] theorem besideVehicles_reviewLeft (d : Option (Option FrogIx)) :
    (reviewLeft d s).besideVehicles = s.besideVehicles := by
  unfold reviewLeft; split <;> simp

@[simp] theorem besideVehicles_signOff (n : VehicleNumber) : (signOff n s).besideVehicles = s.besideVehicles := by
  unfold signOff; split <;> simp

@[simp] theorem besideVehicles_dewireReport (n : VehicleNumber) (i : Option SectionIx) (f : Option FrogIx) :
    (dewireReport n i f s).besideVehicles = s.besideVehicles := by
  unfold dewireReport; repeat' (first | split | dsimp only)
  all_goals simp

@[simp] theorem besideVehicles_insulationReport (n : VehicleNumber) (i : Option SectionIx) :
    (insulationReport n i s).besideVehicles = s.besideVehicles := by
  unfold insulationReport; simp

@[simp] theorem besideVehicles_clearReport (n : VehicleNumber) (c : ClearScope) :
    (clearReport n c s).besideVehicles = s.besideVehicles := by
  unfold clearReport; repeat' (first | split | dsimp only)
  all_goals simp

@[simp] theorem besideVehicles_reportOnEntry (n : VehicleNumber) (r : VehicleReport) :
    (reportOnEntry n r s).besideVehicles = s.besideVehicles := by
  unfold reportOnEntry; split <;> simp

@[simp] theorem besideVehicles_untrackedReport (r : VehicleReport) :
    (untrackedReport r s).besideVehicles = s.besideVehicles := by
  unfold untrackedReport; split <;> simp

@[simp] theorem besideVehicles_takeReport (n : VehicleNumber) (r : VehicleReport) :
    (takeReport n r s).besideVehicles = s.besideVehicles := by
  unfold takeReport; repeat' (first | split | dsimp only)
  all_goals simp

@[simp] theorem besideVehicles_ageExpiry (n : VehicleNumber) : (ageExpiry n s).besideVehicles = s.besideVehicles := by
  unfold ageExpiry; repeat' split
  all_goals simp

@[simp] theorem besideVehicles_agePeriod (n : VehicleNumber) : (agePeriod n s).besideVehicles = s.besideVehicles := rfl

@[simp] theorem besideVehicles_dropDewireAt (f : FrogIx) : (dropDewireAt f s).besideVehicles = s.besideVehicles := rfl

@[simp] theorem besideVehicles_handBounce (f : FrogIx) (j : Judgement) (tag : Option VehicleNumber) :
    (handBounce f j tag s).besideVehicles = s.besideVehicles := by
  unfold handBounce; split <;> simp

@[simp] theorem besideVehicles_handToFrog (f : FrogIx) (j : Judgement) (tag : Option VehicleNumber) (w : Tick) :
    (handToFrog f j tag w s).besideVehicles = s.besideVehicles := by
  unfold handToFrog; split <;> simp

@[simp] theorem besideVehicles_conclude (f : FrogIx) : (conclude f s).besideVehicles = s.besideVehicles := by
  unfold conclude; split <;> simp

@[simp] theorem besideVehicles_openContact (f : FrogIx) (t : Tick) :
    (openContact f t s).besideVehicles = s.besideVehicles := by
  unfold openContact; simp

@[simp] theorem besideVehicles_entryRise (f : FrogIx) (t : Tick) : (entryRise f t s).besideVehicles = s.besideVehicles := by
  unfold entryRise; repeat' split
  all_goals simp

@[simp] theorem besideVehicles_entryFall (f : FrogIx) (t : Tick) : (entryFall f t s).besideVehicles = s.besideVehicles := by
  unfold entryFall; simp

@[simp] theorem besideVehicles_joinReturn (f : FrogIx) : (joinReturn f s).1.besideVehicles = s.besideVehicles := by
  unfold joinReturn; repeat' split
  all_goals simp

@[simp] theorem besideVehicles_handPlacement (tag : Option VehicleNumber) (i : SectionIx) :
    (handPlacement tag i s).besideVehicles = s.besideVehicles := by
  unfold handPlacement; split <;> simp

@[simp] theorem besideVehicles_exitWork (f : FrogIx) : (exitWork f s).1.besideVehicles = s.besideVehicles := by
  unfold exitWork; repeat' split
  all_goals simp [FrogWork.followedBy]

@[simp] theorem besideVehicles_skateEvent (f : FrogIx) (e : SkateEvent) :
    (skateEvent f s e).besideVehicles = s.besideVehicles := by
  unfold skateEvent; split <;> simp

@[simp] theorem besideVehicles_takeSkate (f : FrogIx) (l : List SkateEvent) :
    (takeSkate f l s).besideVehicles = s.besideVehicles := by
  unfold takeSkate
  induction l generalizing s with
  | nil => rfl
  | cons e l ih => rw [List.foldl_cons, ih]; simp

@[simp] theorem besideVehicles_settleExpires (f : FrogIx) : (settleExpires f s).besideVehicles = s.besideVehicles := by
  unfold settleExpires; repeat' split
  all_goals simp

@[simp] theorem besideVehicles_holdExpires (f : FrogIx) : (holdExpires f s).besideVehicles = s.besideVehicles := by
  unfold holdExpires; repeat' split
  all_goals simp

/-! ## The work of the sections -/

@[simp] theorem besideSections_putSect (i : SectionIx) (x : Option Sect) :
    (s.putSect i x).besideSections = s.besideSections := rfl

@[simp] theorem besideSections_putUnit (u : UnitIx) (x : TestUnit) :
    (s.putUnit u x).besideSections = s.besideSections := rfl

@[simp] theorem besideSections_setOrders (l : List Order) : (s.setOrders l).besideSections = s.besideSections := rfl

@[simp] theorem besideSections_editSect (i : SectionIx) (g : Sect → Sect) :
    (s.editSect i g).besideSections = s.besideSections := by
  unfold State.editSect; split <;> rfl

@[simp] theorem besideSections_editProt (i : SectionIx) (g : Protection → Protection) :
    (s.editProt i g).besideSections = s.besideSections := by
  unfold State.editProt; simp

@[simp] theorem besideSections_raise (b : NoticeBody) : (raise b s).besideSections = s.besideSections :=
  besideSections_of_besideFrogs (by simp)

@[simp] theorem besideSections_raiseSection (i : SectionIx) : (raiseSection i s).besideSections = s.besideSections :=
  besideSections_of_besideFrogs (by simp)

@[simp] theorem besideSections_raiseFlagSet (i : SectionIx) (fl : Option SectionFlag) :
    (raiseFlagSet i fl s).besideSections = s.besideSections :=
  besideSections_of_besideFrogs (besideFrogs_of_besideNotices (by simp))

@[simp] theorem besideSections_raiseSupplyCleared (i : SectionIx) (x : Sect) (st : SectionState) :
    (raiseSupplyCleared i x st s).besideSections = s.besideSections :=
  besideSections_of_besideFrogs (besideFrogs_of_besideNotices (by simp))

@[simp] theorem besideSections_checkHeadsOf (i : SectionIx) : (checkHeadsOf i s).besideSections = s.besideSections :=
  besideSections_of_besideFrogs (by simp)

@[simp] theorem besideSections_checkIfPowerChanged (i : SectionIx) (b : Bool) :
    (checkIfPowerChanged i b s).besideSections = s.besideSections := by
  unfold checkIfPowerChanged; split <;> simp

@[simp] theorem besideSections_registerFor (i : SectionIx) (k : OrderKind) :
    (registerFor i k s).besideSections = s.besideSections := by
  unfold registerFor; split <;> rfl

@[simp] theorem besideSections_registerEntry (i : SectionIx) (st : SectionState) :
    (registerEntry i st s).besideSections = s.besideSections := by
  unfold registerEntry; split <;> simp

@[simp] theorem besideSections_enterTesting (i : SectionIx) : (enterTesting i s).besideSections = s.besideSections := by
  unfold enterTesting; simp

@[simp] theorem besideSections_grantUnit (u : UnitIx) : (grantUnit u s).besideSections = s.besideSections := by
  unfold grantUnit; repeat' split
  all_goals simp

@[simp] theorem besideSections_releaseUnit (u : UnitIx) (i : SectionIx) (o : TestOutcome) :
    (releaseUnit u i o s).besideSections = s.besideSections := by
  unfold releaseUnit; split <;> simp

@[simp] theorem besideSections_leaveTest (i : SectionIx) (x : Sect) (o : TestOutcome) :
    (leaveTest i x o s).besideSections = s.besideSections := by
  unfold leaveTest withdrawFrom; split <;> simp

@[simp] theorem besideSections_enterState (i : SectionIx) (st : SectionState) (fl : Option SectionFlag)
    (o : TestOutcome) : (enterState i st fl o s).besideSections = s.besideSections := by
  unfold enterState; repeat' (first | split | dsimp only)
  all_goals simp

@[simp] theorem besideSections_lockOut (i : SectionIx) (r : LockReason) (fl : Option SectionFlag) (o : TestOutcome) :
    (lockOut i r fl o s).besideSections = s.besideSections := by
  unfold lockOut; simp

@[simp] theorem besideSections_trip (i : SectionIx) (r : TripReason) : (trip i r s).besideSections = s.besideSections := by
  unfold trip; simp

@[simp] theorem besideSections_closeTo (i : SectionIx) (fl : Option SectionFlag) :
    (closeTo i fl s).besideSections = s.besideSections := by
  unfold closeTo; simp

@[simp] theorem besideSections_passToTestWait (i : SectionIx) :
    (passToTestWait i s).besideSections = s.besideSections := by
  unfold passToTestWait; repeat' (first | split | dsimp only)
  all_goals simp

@[simp] theorem besideSections_coolDownCheck (i : SectionIx) : (coolDownCheck i s).besideSections = s.besideSections := by
  unfold coolDownCheck; repeat' split
  all_goals simp

@[simp] theorem besideSections_beginAttempt (i : SectionIx) (o : Origin) (n : Nat) :
    (beginAttempt i o n s).besideSections = s.besideSections := by
  unfold beginAttempt; repeat' (first | split | dsimp only)
  all_goals simp

@[simp] theorem besideSections_failAttempt (i : SectionIx) (c : LockReason) (fl : Option SectionFlag)
    (o : TestOutcome) : (failAttempt i c fl o s).besideSections = s.besideSections := by
  unfold failAttempt; repeat' split
  all_goals simp

@[simp] theorem besideSections_takeBreaker (i : SectionIx) (b : BreakerState) :
    (takeBreaker i b s).besideSections = s.besideSections := by
  unfold takeBreaker reportOpen reportClosed reportFault openedToWait
  repeat' (first | split | dsimp only)
  all_goals simp

@[simp] theorem besideSections_isolateRequest (i : SectionIx) (k : OrderKind) :
    (isolateRequest i k s).besideSections = s.besideSections := by
  unfold isolateRequest; repeat' (first | split | dsimp only)
  all_goals simp

@[simp] theorem besideSections_energizeRequest (i : SectionIx) :
    (energizeRequest i s).besideSections = s.besideSections := by
  unfold energizeRequest; repeat' split
  all_goals simp

@[simp] theorem besideSections_interceptSection (i : SectionIx) (p : List Byte) :
    (interceptSection i p s).besideSections = s.besideSections := by
  unfold interceptSection; repeat' split
  all_goals simp

@[simp] theorem besideFrogs_interceptFrog (f : FrogIx) (p : List Byte) :
    (interceptFrog f p s).besideFrogs = s.besideFrogs := by
  unfold interceptFrog; repeat' split
  all_goals simp

@[simp] theorem besideSections_takeResult (i : SectionIx) (r : BitVec 16) :
    (takeResult i r s).besideSections = s.besideSections := by
  unfold takeResult; repeat' split
  all_goals simp

@[simp] theorem besideSections_sectionEnding (i : SectionIx) (k : OrderKind) (a : Bool) :
    (sectionEnding i k a s).besideSections = s.besideSections := by
  unfold sectionEnding; repeat' split
  all_goals simp

@[simp] theorem besideSections_openExpiry (i : SectionIx) : (openExpiry i s).besideSections = s.besideSections := by
  unfold openExpiry; repeat' split
  all_goals simp

@[simp] theorem besideSections_closeExpiry (i : SectionIx) : (closeExpiry i s).besideSections = s.besideSections := by
  unfold closeExpiry; repeat' split
  all_goals simp

@[simp] theorem besideSections_testExpiry (i : SectionIx) : (testExpiry i s).besideSections = s.besideSections := by
  unfold testExpiry; repeat' split
  all_goals simp

@[simp] theorem besideSections_deadWaitExpires (i : SectionIx) :
    (deadWaitExpires i s).besideSections = s.besideSections := by
  unfold deadWaitExpires; repeat' split
  all_goals simp

@[simp] theorem besideSections_reclaimExpires (i : SectionIx) : (reclaimExpires i s).besideSections = s.besideSections := by
  unfold reclaimExpires; repeat' split
  all_goals simp

@[simp] theorem besideSections_reclaimPeriod (i : SectionIx) : (reclaimPeriod i s).besideSections = s.besideSections := by
  unfold reclaimPeriod; repeat' split
  all_goals simp

@[simp] theorem besideSections_silenceExpires (i : SectionIx) : (silenceExpires i s).besideSections = s.besideSections := by
  unfold silenceExpires; repeat' (first | split | dsimp only)
  all_goals simp

/-! ## The work of the protection engine -/

@[simp] theorem besideSections_tripIf (i : SectionIx) (r : Option TripReason) :
    (tripIf i r s).besideSections = s.besideSections := by
  unfold tripIf; split <;> simp

@[simp] theorem besideSections_takeSample (i : SectionIx) (x : Sample) :
    (takeSample i s x).besideSections = s.besideSections := by
  unfold takeSample; split <;> simp

@[simp] theorem besideSections_fillStep (i : SectionIx) : (fillStep i s).besideSections = s.besideSections := by
  unfold fillStep; split <;> simp

@[simp] theorem besideSections_fillSteps (i : SectionIx) (n : Nat) :
    (fillSteps i n s).besideSections = s.besideSections := by
  induction n generalizing s with
  | zero => rfl
  | succ n ih => unfold fillSteps; rw [ih]; simp

@[simp] theorem besideSections_gapAction (i : SectionIx) (c : GapClass) (a : Int) :
    (gapAction i c a s).besideSections = s.besideSections := by
  unfold gapAction fillGap resync; split <;> simp

@[simp] theorem besideSections_clearBlind (i : SectionIx) : (clearBlind i s).besideSections = s.besideSections := by
  unfold clearBlind; repeat' split
  all_goals simp

@[simp] theorem besideSections_evaluateSupply (i : SectionIx) (v : List Nat) :
    (evaluateSupply i v s).besideSections = s.besideSections := by
  unfold evaluateSupply; repeat' (first | split | dsimp only)
  all_goals simp

theorem besideSections_foldl {α : Type} (g : State → α → State) (h : ∀ t a, (g t a).besideSections = t.besideSections)
    (l : List α) : (l.foldl g s).besideSections = s.besideSections := by
  induction l generalizing s with
  | nil => rfl
  | cons a l ih => rw [List.foldl_cons, ih, h]

@[simp] theorem besideSections_acceptFrame (i : SectionIx) (c : GapClass) (q : Byte) (l : List Sample) :
    (acceptFrame i c q l s).besideSections = s.besideSections := by
  unfold acceptFrame; dsimp only
  rw [besideSections_coolDownCheck, besideSections_evaluateSupply, besideSections_editSect,
    besideSections_foldl _ _ (fun t a => besideSections_takeSample t i a)]
  simp

@[simp] theorem besideSections_takeSamples (i : SectionIx) (q : Byte) (p : List Byte) :
    (takeSamples i q p s).besideSections = s.besideSections := by
  unfold takeSamples; repeat' split
  all_goals simp

/-! ## The work of the order list -/

@[simp] theorem besideSections_serveTurn (t : Turn) : (serveTurn t s).1.besideSections = s.besideSections := by
  have hn : ∀ f, (noteFrog f (checkHead f s)).besideSections = s.besideSections := fun f =>
    besideSections_of_besideFrogs (by simp)
  unfold serveTurn serveSection serveFrog
  repeat' (first | split | dsimp only)
  all_goals simp [hn]

@[simp] theorem besideSections_serveTurns (l : List Turn) : (serveTurns l s).besideSections = s.besideSections := by
  induction l generalizing s with
  | nil => rfl
  | cons t l ih => unfold serveTurns; split <;> simp [ih]

@[simp] theorem besideSections_endOrder (e : Order) (a : Bool) : (endOrder e a s).besideSections = s.besideSections := by
  have hf : ∀ (f : FrogIx) (t : State), (frogEnding f e.kind a t).besideSections = t.besideSections := fun f t =>
    besideSections_of_besideFrogs (by simp)
  unfold endOrder serveWaits tellOwner
  simp only [besideSections_serveTurns]
  split <;> simp [hf]

@[simp] theorem besideSections_takeAck (a : LineAddr) (q : Byte) (b : Bool) :
    (takeAck a q b s).besideSections = s.besideSections := by
  unfold takeAck; repeat' split
  all_goals simp

@[simp] theorem besideSections_ackExpiry (a : LineAddr) : (ackExpiry a s).besideSections = s.besideSections := by
  unfold ackExpiry; repeat' split
  all_goals simp

@[simp] theorem besideSections_markSent (a : LineAddr) (q : Byte) : (markSent a q s).besideSections = s.besideSections :=
  rfl

/-! ## Processing a frame, and interception -/

@[simp] theorem besideWork_processField (f : Frame) : (processField f s).besideWork = s.besideWork := by
  have hp : ∀ g rep, (noteFrog g (positionWork g rep s)).besideWork = s.besideWork := fun g rep =>
    besideWork_of_besideSections (besideSections_of_besideFrogs (by simp))
  unfold processField
  repeat' split
  all_goals first
    | rfl
    | exact hp _ _
    | exact besideWork_of_besideSections (by simp)
    | exact besideWork_of_besideVehicles (by simp)

@[simp] theorem besideWork_process (p : PortId) (f : Frame) : (process p f s).besideWork = s.besideWork := by
  unfold process; repeat' split
  all_goals simp

theorem besideSections_intercept (p : PortId) (f : Frame) (t : State) (h : intercept p f s = some t) :
    t.besideSections = s.besideSections := by
  unfold intercept at h
  repeat' split at h
  all_goals cases h
  · simp
  · exact besideSections_of_besideFrogs (by simp)

end Sys2Proof.Machine
end

