-- ==== Sys2Proof/Laws/Operands.lean ====
section
/-!
SUPPORT. The operand forms: the bytes of a field and the field of its bytes (spec/00 sections 4.5 and 4.7), and the codes
that are read back.
-/

namespace Sys2Proof.Machine

@[simp] theorem u8_toNat (n : Nat) : (u8 n).toNat = n % 256 := by simp [u8]

@[simp] theorem u8_byte (b : Byte) : u8 b.toNat = b := by simp [u8]

/-- A 16-bit field is 256 times its first byte plus its second. -/
theorem word_toNat (a b : Byte) : (word a b).toNat = a.toNat * 256 + b.toNat := by
  unfold word
  rw [BitVec.toNat_append, ← Nat.shiftLeft_add_eq_or_of_lt b.isLt, Nat.shiftLeft_eq]

/-- A 16-bit field is read back from its two bytes. -/
@[simp] theorem word_of_bytes (w : BitVec 16) : word (u8 (w.toNat / 256)) (u8 w.toNat) = w := by
  apply BitVec.eq_of_toNat_eq
  rw [word_toNat, u8_toNat, u8_toNat]
  omega

/-- Two bytes are written back from their field. -/
@[simp] theorem beWord_word (a b : Byte) : beWord (word a b) = [a, b] := by
  have h : (word a b).toNat / 256 % 256 = a.toNat ∧ (word a b).toNat % 256 = b.toNat := by
    rw [word_toNat]; omega
  have ha : u8 ((word a b).toNat / 256) = a := BitVec.eq_of_toNat_eq (by rw [u8_toNat]; exact h.1)
  have hb : u8 (word a b).toNat = b := BitVec.eq_of_toNat_eq (by rw [u8_toNat]; exact h.2)
  rw [beWord, be16, ha, hb]

@[simp] theorem beWord_length (w : BitVec 16) : (beWord w).length = 2 := rfl
@[simp] theorem be16_length (n : Nat) : (be16 n).length = 2 := rfl
@[simp] theorem be32_length (n : Nat) : (be32 n).length = 4 := rfl
@[simp] theorem beSigned_length (i : Int) : (beSigned i).length = 2 := rfl

/-- A number below 2³² is read back from its four bytes. -/
theorem be32_value {n : Nat} (h : n < 4294967296) :
    ((u8 (n / 16777216)).toNat * 256 + (u8 (n / 65536)).toNat) * 65536
      + ((u8 (n / 256)).toNat * 256 + (u8 n).toNat) = n := by
  simp only [u8_toNat]; omega

/-- A number below 2¹⁶ is read back from its two bytes. -/
theorem be16_value {n : Nat} (h : n < 65536) : (u8 (n / 256)).toNat * 256 + (u8 n).toNat = n := by
  simp only [u8_toNat]; omega

/-- An index is read back from its byte. -/
theorem indexOf_u8 {k : Nat} (i : Fin k) (h : k ≤ 256) : indexOf k (u8 i.val).toNat = some i := by
  have := i.isLt
  have hm : (u8 i.val).toNat = i.val := by rw [u8_toNat]; omega
  rw [hm]; simp [indexOf]

/-- A vehicle number is read back from its two BCD bytes (section 4.5). -/
theorem bcdNumber_bcdBytes (n : VehicleNumber) :
    bcdNumber ((bcdBytes n).getD 0 0) ((bcdBytes n).getD 1 0) = some n := by
  have hn := n.isLt
  have hd : ∀ x y : Nat, x ≤ 9 → y ≤ 9 → (u8 (x * 16 + y)).toNat / 16 = x ∧ (u8 (x * 16 + y)).toNat % 16 = y := by
    intro x y hx hy; rw [u8_toNat]; omega
  obtain ⟨h1, h2⟩ := hd (n.val / 1000) (n.val / 100 % 10) (by omega) (by omega)
  obtain ⟨h3, h4⟩ := hd (n.val / 10 % 10) (n.val % 10) (by omega) (by omega)
  simp only [bcdBytes, List.getD_cons_zero, List.getD_cons_succ, bcdNumber, h1, h2, h3, h4]
  rw [if_pos (by omega)]
  have : n.val / 1000 * 1000 + n.val / 100 % 10 * 100 + n.val / 10 % 10 * 10 + n.val % 10 = n.val := by
    clear h1 h2 h3 h4 hd
    have e1 : n.val / 100 = n.val / 10 / 10 := by rw [Nat.div_div_eq_div_mul]
    have e2 : n.val / 1000 = n.val / 10 / 10 / 10 := by rw [Nat.div_div_eq_div_mul, Nat.div_div_eq_div_mul]
    omega
  rw [this]; simp [indexOf]

end Sys2Proof.Machine
end

