-- ==== Sys2Proof/Laws/Ops.lean ====
section
/-!
SUPPORT. What each shared operation can do, said once: the cases of a raised notice, a registration, a forwarded frame, an
arriving frame or request, and the fields behind the masks of Safety.lean. Later proofs cite these and unfold no callee.
-/

namespace Sys2Proof.Machine

variable {s t : State}

/-! ## Fields behind a mask -/

theorem sections_of_besideFrogs (h : t.besideFrogs = s.besideFrogs) : t.sections = s.sections :=
  (congrArg State.sections h :)
theorem units_of_besideFrogs (h : t.besideFrogs = s.besideFrogs) : t.units = s.units := (congrArg State.units h :)
theorem vehicles_of_besideFrogs (h : t.besideFrogs = s.besideFrogs) : t.vehicles = s.vehicles :=
  (congrArg State.vehicles h :)
theorem globals_of_besideFrogs (h : t.besideFrogs = s.besideFrogs) : t.globals = s.globals := (congrArg State.globals h :)
theorem partTime_of_besideFrogs (h : t.besideFrogs = s.besideFrogs) : t.partTime = s.partTime :=
  (congrArg State.partTime h :)
theorem activity_of_besideFrogs (h : t.besideFrogs = s.besideFrogs) : t.activity = s.activity :=
  (congrArg State.activity h :)
theorem replies_of_besideFrogs (h : t.besideFrogs = s.besideFrogs) : t.replies = s.replies := (congrArg State.replies h :)
theorem mode_of_besideFrogs (h : t.besideFrogs = s.besideFrogs) : t.mode = s.mode := (congrArg State.mode h :)

theorem vehicles_of_besideSections (h : t.besideSections = s.besideSections) : t.vehicles = s.vehicles :=
  (congrArg State.vehicles h :)
theorem globals_of_besideSections (h : t.besideSections = s.besideSections) : t.globals = s.globals :=
  (congrArg State.globals h :)
theorem partTime_of_besideSections (h : t.besideSections = s.besideSections) : t.partTime = s.partTime :=
  (congrArg State.partTime h :)
theorem activity_of_besideSections (h : t.besideSections = s.besideSections) : t.activity = s.activity :=
  (congrArg State.activity h :)
theorem replies_of_besideSections (h : t.besideSections = s.besideSections) : t.replies = s.replies :=
  (congrArg State.replies h :)
theorem mode_of_besideSections (h : t.besideSections = s.besideSections) : t.mode = s.mode := (congrArg State.mode h :)

/-- A section reads the same where the tables are the same. -/
theorem sect_congr (h : t.sections = s.sections) (i : SectionIx) : t.sect i = s.sect i := by
  unfold State.sect; rw [h]

/-- A frog reads the same where the tables are the same. -/
theorem frog_congr (h : t.frogs = s.frogs) (f : FrogIx) : t.frog f = s.frog f := by
  unfold State.frog; rw [h]

/-- A test unit reads the same where the tables are the same. -/
theorem unit_congr (h : t.units = s.units) (u : UnitIx) : t.unit u = s.unit u := by
  unfold State.unit; rw [h]

/-! ## Notices -/

/-- A raised notice is dropped, queued at the tail, or lost with NOTICE_LOST set (R157, R158). -/
theorem raise_cases (b : NoticeBody) (s : State) :
    (s.globals.centreAddr = 0x0000 ∧ raise b s = s) ∨
    (s.globals.centreAddr ≠ 0x0000 ∧ s.notices.length < 24 ∧
      raise b s = s.setNotices (s.notices ++ [{ dest := s.globals.centreAddr, body := b }])) ∨
    (s.globals.centreAddr ≠ 0x0000 ∧ 24 ≤ s.notices.length ∧ raise b s = s.setNoticeLost true) := by
  unfold raise
  split
  · exact .inl ⟨‹_›, rfl⟩
  · split
    · exact .inr (.inl ⟨‹_›, ‹_›, rfl⟩)
    · exact .inr (.inr ⟨‹_›, Nat.le_of_not_lt ‹_›, rfl⟩)

@[simp] theorem raise_sections (b : NoticeBody) : (raise b s).sections = s.sections :=
  (congrArg State.sections (besideNotices_raise s b) :)
@[simp] theorem raise_units (b : NoticeBody) : (raise b s).units = s.units :=
  (congrArg State.units (besideNotices_raise s b) :)
@[simp] theorem raise_frogs (b : NoticeBody) : (raise b s).frogs = s.frogs :=
  (congrArg State.frogs (besideNotices_raise s b) :)
@[simp] theorem raise_vehicles (b : NoticeBody) : (raise b s).vehicles = s.vehicles :=
  (congrArg State.vehicles (besideNotices_raise s b) :)
@[simp] theorem raise_orders (b : NoticeBody) : (raise b s).orders = s.orders :=
  (congrArg State.orders (besideNotices_raise s b) :)
@[simp] theorem raise_filter (b : NoticeBody) : (raise b s).filter = s.filter :=
  (congrArg State.filter (besideNotices_raise s b) :)
@[simp] theorem raise_uplink (b : NoticeBody) : (raise b s).uplink = s.uplink :=
  (congrArg State.uplink (besideNotices_raise s b) :)
@[simp] theorem raise_field (b : NoticeBody) : (raise b s).field = s.field :=
  (congrArg State.field (besideNotices_raise s b) :)
@[simp] theorem raise_replies (b : NoticeBody) : (raise b s).replies = s.replies :=
  (congrArg State.replies (besideNotices_raise s b) :)
@[simp] theorem raise_globals (b : NoticeBody) : (raise b s).globals = s.globals :=
  (congrArg State.globals (besideNotices_raise s b) :)
@[simp] theorem raise_cause (b : NoticeBody) : (raise b s).cause = s.cause :=
  (congrArg State.cause (besideNotices_raise s b) :)
@[simp] theorem raise_mode (b : NoticeBody) : (raise b s).mode = s.mode :=
  (congrArg State.mode (besideNotices_raise s b) :)
@[simp] theorem raise_activity (b : NoticeBody) : (raise b s).activity = s.activity :=
  (congrArg State.activity (besideNotices_raise s b) :)
@[simp] theorem raise_partTime (b : NoticeBody) : (raise b s).partTime = s.partTime :=
  (congrArg State.partTime (besideNotices_raise s b) :)
@[simp] theorem raise_ownAddr (b : NoticeBody) : (raise b s).ownAddr = s.ownAddr :=
  (congrArg State.ownAddr (besideNotices_raise s b) :)
@[simp] theorem sect_raise (b : NoticeBody) (i : SectionIx) : (raise b s).sect i = s.sect i := sect_congr (by simp) i
@[simp] theorem frog_raise (b : NoticeBody) (f : FrogIx) : (raise b s).frog f = s.frog f := frog_congr (by simp) f
@[simp] theorem unit_raise (b : NoticeBody) (u : UnitIx) : (raise b s).unit u = s.unit u := unit_congr (by simp) u

/-! ## Registration -/

/-- A registration leaves the list as it is, or removes the entries with the target and appends one QUEUED entry (R129 to
R132). -/
theorem register_cases (l : List Order) (a : LineAddr) (k : OrderKind) :
    ((register l a k).1 = l ∧ (register l a k).2 ≠ .taken) ∨
    ((register l a k).2 = .taken ∧ hasRoom l k = true ∧ (∀ e ∈ l, e.target ≠ a) ∧
      (register l a k).1 = l ++ [{ target := a, kind := k, state := .queued }]) ∨
    ((register l a k).2 = .taken ∧ k.urgent = true ∧ hasRoom (l.filter fun e => decide (e.target ≠ a)) k = true ∧
      (∃ e ∈ l, e.target = a ∧ e.kind.urgent = false) ∧
      (register l a k).1 = (l.filter fun e => decide (e.target ≠ a)) ++ [{ target := a, kind := k, state := .queued }]) ∨
    ((register l a k).2 = .noRoom ∧ k.urgent = true ∧ (register l a k).1 = l.filter fun e => decide (e.target ≠ a)) := by
  unfold register
  split
  next hn =>
    rw [List.find?_eq_none] at hn
    unfold registerFresh; split
    · exact .inr (.inl ⟨rfl, ‹_›, by simpa using hn, rfl⟩)
    · exact .inl ⟨rfl, by simp⟩
  next e he =>
    have hm := List.mem_of_find?_eq_some he
    have ht : e.target = a := by simpa using List.find?_some he
    split
    · exact .inl ⟨rfl, by simp⟩
    · split
      next hu =>
        simp only [Bool.and_eq_true, Bool.not_eq_true'] at hu
        unfold registerFresh; split
        · exact .inr (.inr (.inl ⟨rfl, hu.1, ‹_›, ⟨e, hm, ht, hu.2⟩, rfl⟩))
        · exact .inr (.inr (.inr ⟨rfl, hu.1, rfl⟩))
      · exact .inl ⟨rfl, by simp⟩

/-! ## Forwarding and the filter -/

/-- A forwarded frame joins the other port's queue, or FORWARD_DROP is set where it arrived (R150). -/
theorem forward_cases (p : PortId) (f : Frame) (s : State) :
    ((s.port (otherPort p)).forward.length < 32 ∧ forward p f s = s.putPort (otherPort p)
      { s.port (otherPort p) with forward := (s.port (otherPort p)).forward ++ [f] }) ∨
    (32 ≤ (s.port (otherPort p)).forward.length ∧
      forward p f s = s.putPort p { s.port p with forwardDrop := true }) := by
  unfold forward
  split
  · exact .inl ⟨‹_›, rfl⟩
  · exact .inr ⟨Nat.le_of_not_lt ‹_›, rfl⟩

theorem besidePorts_putPort (p : PortId) (x : Port) : (s.putPort p x).besidePorts = s.besidePorts := by
  cases p <;> rfl

/-- Forwarding touches the ports alone. -/
theorem besidePorts_forward (p : PortId) (f : Frame) : (forward p f s).besidePorts = s.besidePorts := by
  obtain ⟨-, h⟩ | ⟨-, h⟩ := forward_cases p f s <;> rw [h, besidePorts_putPort]

/-- The filter touches the ports alone. -/
theorem besidePorts_fileFrame (p : PortId) (f : Frame) : (fileFrame p f s).besidePorts = s.besidePorts := by
  unfold fileFrame; split
  · rfl
  · exact besidePorts_forward p f

@[simp] theorem fileFrame_sections (p : PortId) (f : Frame) : (fileFrame p f s).sections = s.sections :=
  (congrArg State.sections (besidePorts_fileFrame p f) :)
@[simp] theorem fileFrame_units (p : PortId) (f : Frame) : (fileFrame p f s).units = s.units :=
  (congrArg State.units (besidePorts_fileFrame p f) :)
@[simp] theorem fileFrame_frogs (p : PortId) (f : Frame) : (fileFrame p f s).frogs = s.frogs :=
  (congrArg State.frogs (besidePorts_fileFrame p f) :)
@[simp] theorem fileFrame_vehicles (p : PortId) (f : Frame) : (fileFrame p f s).vehicles = s.vehicles :=
  (congrArg State.vehicles (besidePorts_fileFrame p f) :)
@[simp] theorem fileFrame_orders (p : PortId) (f : Frame) : (fileFrame p f s).orders = s.orders :=
  (congrArg State.orders (besidePorts_fileFrame p f) :)
@[simp] theorem fileFrame_activity (p : PortId) (f : Frame) : (fileFrame p f s).activity = s.activity :=
  (congrArg State.activity (besidePorts_fileFrame p f) :)
@[simp] theorem sect_fileFrame (p : PortId) (f : Frame) (i : SectionIx) : (fileFrame p f s).sect i = s.sect i :=
  sect_congr (by simp) i
@[simp] theorem frog_fileFrame (p : PortId) (f : Frame) (g : FrogIx) : (fileFrame p f s).frog g = s.frog g :=
  frog_congr (by simp) g
@[simp] theorem unit_fileFrame (p : PortId) (f : Frame) (u : UnitIx) : (fileFrame p f s).unit u = s.unit u :=
  unit_congr (by simp) u

/-- Behind a mask of work and the mask of the ports, the filter changes nothing. -/
@[simp] theorem besideSections_fileFrame (p : PortId) (f : Frame) :
    (fileFrame p f s).besideSections.besidePorts = s.besideSections.besidePorts :=
  (congrArg State.besideSections (besidePorts_fileFrame (s := s) p f) :)
@[simp] theorem besideFrogs_fileFrame (p : PortId) (f : Frame) :
    (fileFrame p f s).besideFrogs.besidePorts = s.besideFrogs.besidePorts :=
  (congrArg State.besideFrogs (besidePorts_fileFrame (s := s) p f) :)
@[simp] theorem besideVehicles_fileFrame (p : PortId) (f : Frame) :
    (fileFrame p f s).besideVehicles.besidePorts = s.besideVehicles.besidePorts :=
  (congrArg State.besideVehicles (besidePorts_fileFrame (s := s) p f) :)

/-! ## Arrivals -/

/-- A field device's frame in SUPERVISE is processed, then left to the filter (R146). -/
theorem arriveFrame_field (hs : s.supervising) (f : Frame) (hk : f.kind ≠ kindMgmt) (hsrc : f.src ≠ 0x0000)
    (hl : f.payload.length ≤ 120) : arriveFrame .field f s = fileFrame .field f (processField f s) := by
  have hsrc' : f.src ≠ 0#16 := hsrc
  simp [arriveFrame, State.isRunning, hs.1, hs.2, hl, receiveFrame, Frame.toPart, hk, intercept, process, hsrc']

/-- A frame with no valid source in SUPERVISE is left to the filter (R144). -/
theorem arriveFrame_field_noSource (hs : s.supervising) (f : Frame) (hk : f.kind ≠ kindMgmt) (hsrc : f.src = 0x0000)
    (hl : f.payload.length ≤ 120) : arriveFrame .field f s = fileFrame .field f s := by
  simp [arriveFrame, State.isRunning, hs.1, hs.2, hl, receiveFrame, Frame.toPart, hk, intercept, process, hsrc]

/-- An ORDER for a configured feeder in SUPERVISE is intercepted (R147). -/
theorem arriveFrame_order_section (hs : s.supervising) (f : Frame) (hk : f.kind = kindOrder) (hsrc : f.src ≠ 0x0000)
    (hl : f.payload.length ≤ 120) (i : SectionIx) (hi : s.sectAt f.dest = some i) :
    arriveFrame .uplink f s = interceptSection i f.payload s := by
  have hsrc' : f.src ≠ 0#16 := hsrc
  simp [arriveFrame, State.isRunning, hs.1, hs.2, hl, receiveFrame, Frame.toPart, hk, intercept, hsrc', hi, kindOrder,
    kindMgmt]

/-- An ORDER for a configured frog in SUPERVISE is intercepted (R148). -/
theorem arriveFrame_order_frog (hs : s.supervising) (f : Frame) (hk : f.kind = kindOrder) (hsrc : f.src ≠ 0x0000)
    (hl : f.payload.length ≤ 120) (hi : s.sectAt f.dest = none) (g : FrogIx) (hg : s.frogAt f.dest = some g) :
    arriveFrame .uplink f s = interceptFrog g f.payload s := by
  have hsrc' : f.src ≠ 0#16 := hsrc
  simp [arriveFrame, State.isRunning, hs.1, hs.2, hl, receiveFrame, Frame.toPart, hk, intercept, hsrc', hi, hg, kindOrder,
    kindMgmt]

/-- A request that is taken is judged and its reply queued (R161). -/
theorem arriveRequest_taken {src : LineAddr} {a : List Byte} (h : s.takes src a) (seq code : Byte) (tag : BitVec 16) :
    arriveRequest src seq code tag a s = queueReply src code tag (judgeRequest code a s) := by
  have hl : (makeFrame s.ownAddr src kindMgmt seq ([code] ++ beWord tag ++ a)).payload.length ≤ 120 := by
    have := h.2.2.1
    simp [makeFrame, beWord, be16]; omega
  have ht : (makeFrame s.ownAddr src kindMgmt seq ([code] ++ beWord tag ++ a)).toPart s = true := by
    simp [Frame.toPart, makeFrame]
  unfold arriveRequest arriveFrame
  rw [if_pos (by simp [State.isRunning, h.1]), if_pos hl]
  unfold receiveFrame
  rw [ht]
  simp only [makeFrame, decide_true, Bool.true_and, ne_eq, h.2.1, not_false_eq_true, if_true]
  simp [takeMgmt, beWord, be16, takeRequest, h.2.2.2]

/-- A request that finds four replies queued is discarded (R161). -/
theorem arriveRequest_full {src : LineAddr} {a : List Byte} (hr : s.activity = .running) (hs : src ≠ 0x0000)
    (ha : a.length ≤ 117) (h : 4 ≤ s.replies.length) (seq code : Byte) (tag : BitVec 16) :
    arriveRequest src seq code tag a s = s := by
  have hl : (makeFrame s.ownAddr src kindMgmt seq ([code] ++ beWord tag ++ a)).payload.length ≤ 120 := by simp [makeFrame, beWord, be16]; omega
  have ht : (makeFrame s.ownAddr src kindMgmt seq ([code] ++ beWord tag ++ a)).toPart s = true := by
    simp [Frame.toPart, makeFrame]
  unfold arriveRequest arriveFrame
  rw [if_pos (by simp [State.isRunning, hr]), if_pos hl]
  unfold receiveFrame
  rw [ht]
  simp only [makeFrame, decide_true, Bool.true_and, ne_eq, hs, not_false_eq_true, if_true]
  simp [takeMgmt, beWord, be16, takeRequest, Config.replyCapacity, Nat.not_lt.mpr h]

end Sys2Proof.Machine
end

