-- ==== Sys2Proof/Laws/Frogs.lean ====
section
/-!
SUPPORT. What a frog's work does to the frog and to the other frogs, said once: the head check, the block set, and the
notices of the event.
-/

namespace Sys2Proof.Machine

variable {s : State}

@[simp] theorem raiseFrog_frogs (f : FrogIx) : (raiseFrog f s).frogs = s.frogs := by
  unfold raiseFrog; split <;> simp

@[simp] theorem noteFrog_frogs (f : FrogIx) (w : FrogWork) : (noteFrog f w).frogs = w.1.frogs := by
  unfold noteFrog; split <;> simp

@[simp] theorem frog_noteFrog (f g : FrogIx) (w : FrogWork) : (noteFrog f w).frog g = w.1.frog g := frog_congr (by simp) g

/-- What work on frog `f` keeps: the other frogs, and the parts of `f`'s record that only loads, reports and skates change. -/
structure FrogKept (f : FrogIx) (g : Frog) (t : State) (s : State) : Prop where
  self : ∃ h, t.frog f = some h ∧ h.params = g.params ∧ h.blocks = g.blocks ∧ h.untracked = g.untracked ∧
    h.capture = g.capture
  others : ∀ k, k ≠ f → t.frog k = s.frog k

theorem frog_putFrog_ne (f k : FrogIx) (x : Option Frog) (h : k ≠ f) : (s.putFrog f x).frog k = s.frog k := by
  simp [State.frog_putFrog, h]

/-- The check of a head keeps the block set, the capture record and the other frogs. -/
theorem checkQueue_kept {f : FrogIx} {g : Frog} (q : List Request) (hg : s.frog f = some g) :
    FrogKept f g (checkQueue f q s).1 s := by
  induction q generalizing s g with
  | nil => exact ⟨⟨g, hg, rfl, rfl, rfl, rfl⟩, fun _ _ => rfl⟩
  | cons r rest ih =>
    have hself : FrogKept f g s s := ⟨⟨g, hg, rfl, rfl, rfl, rfl⟩, fun _ _ => rfl⟩
    have hput : ∀ h : Frog, h.params = g.params → h.blocks = g.blocks → h.untracked = g.untracked →
        h.capture = g.capture → ∀ l, FrogKept f g ((s.setOrders l).putFrog f (some h)) s := fun h h1 h2 h3 h4 l =>
      ⟨⟨h, by simp, h1, h2, h3, h4⟩, fun k hk => by rw [frog_putFrog_ne _ _ _ hk]; rfl⟩
    unfold checkQueue
    rw [hg]
    dsimp only
    split
    · exact hself
    · split
      · split
        · split
          · refine hput _ ?_ ?_ ?_ ?_ s.orders <;> rfl
          · obtain ⟨⟨h, h0, h1, h2, h3, h4⟩, h5⟩ := ih (s := s.putFrog f (some { g with queue := rest, wait := none }))
              (g := { g with queue := rest, wait := none }) (by simp)
            exact ⟨⟨h, h0, h1, h2, h3, h4⟩, fun k hk => by rw [h5 k hk, frog_putFrog_ne _ _ _ hk]⟩
        · unfold serveByThrow
          dsimp only
          split <;> (refine hput _ ?_ ?_ ?_ ?_ _ <;> rfl)
      · refine hput _ ?_ ?_ ?_ ?_ s.orders <;> rfl

theorem checkHead_kept {f : FrogIx} {g : Frog} (hg : s.frog f = some g) : FrogKept f g (checkHead f s).1 s := by
  unfold checkHead; rw [hg]; exact checkQueue_kept _ hg

/-- A blocked frog's head, and a head that is not WAITING, is not served: at most the registration wait goes (R93). -/
theorem checkHead_idle {f : FrogIx} {g : Frog} (hg : s.frog f = some g)
    (hb : g.blocks.blocked = true ∨ headIn .waiting g.queue = false) :
    ∃ w, checkHead f s = (s.putFrog f (some { g with wait := w }), false) ∨
      checkHead f s = (s, false) := by
  unfold checkHead; rw [hg]; dsimp only
  cases hq : g.queue with
  | nil => exact ⟨none, .inr rfl⟩
  | cons r rest =>
    unfold checkQueue; rw [hg]; dsimp only
    by_cases hr : r.phase = .waiting
    · have hbl : g.blocks.blocked = true := by
        obtain h | h := hb
        · exact h
        · simp [hq, headIn, hr] at h
      have hn : headReady s g = false := by simp [headReady, hbl]
      simp only [hr, ne_eq, not_true_eq_false, if_false, hn, Bool.false_eq_true]
      exact ⟨none, .inl (by rw [← hq])⟩
    · rw [if_pos hr]
      exact ⟨none, .inr rfl⟩

theorem frog_self {f : FrogIx} {g : Frog} (hg : s.frog f = some g) : s.putFrog f (some g) = s := by
  have h : s.frogs.set f.val (some g) f.isLt = s.frogs := by
    apply Vector.ext
    intro i hi
    simp only [Vector.getElem_set]
    split
    next e => subst e; exact hg.symm
    · rfl
  simp [State.putFrog, State.setFrogs, h]

/-- A head not served: the state after it, in one form. -/
theorem checkHead_idle' {f : FrogIx} {g : Frog} (hg : s.frog f = some g)
    (hb : g.blocks.blocked = true ∨ headIn .waiting g.queue = false) :
    ∃ w, checkHead f s = (s.putFrog f (some { g with wait := w }), false) := by
  obtain ⟨w, h | h⟩ := checkHead_idle hg hb
  · exact ⟨w, h⟩
  · exact ⟨g.wait, by rw [h, show ({ g with wait := g.wait } : Frog) = g from rfl, frog_self hg]⟩

theorem putFrog_putFrog (f : FrogIx) (x y : Option Frog) : (s.putFrog f x).putFrog f y = s.putFrog f y := by
  simp [State.putFrog, State.setFrogs]

theorem has_put (b : BlockSet) (r : BlockReason) (v : Bool) : (b.put r v).has r = v := by cases r <;> rfl

theorem put_has (b : BlockSet) (r : BlockReason) : b.put r (b.has r) = b := by cases r <;> rfl

theorem blocked_of_has {b : BlockSet} {r : BlockReason} (h : b.has r = true) : b.blocked = true := by
  cases r <;> simp_all [BlockSet.has, BlockSet.blocked]

/-- Putting a reason into a block set (R86): the reason is held, at most the registration wait goes, no order changes, and
the event's FROG_STATE notice is not called for. -/
theorem addBlock_spec {f : FrogIx} {g : Frog} (r : BlockReason) (hg : s.frog f = some g) :
    ∃ w, (addBlock f r s).1.frog f = some { g with blocks := g.blocks.put r true, wait := w } ∧
      (addBlock f r s).1.orders = s.orders ∧ (addBlock f r s).2 = false ∧
      ∀ k, k ≠ f → (addBlock f r s).1.frog k = s.frog k := by
  unfold addBlock; rw [hg]; dsimp only
  split
  next h => exact ⟨g.wait, by rw [hg, ← h, put_has], rfl, rfl, fun _ _ => rfl⟩
  next h =>
    have hf : (raise (.frogBlock f r true (g.blocks.put r true))
        (s.putFrog f (some { g with blocks := g.blocks.put r true }))).frog f
          = some { g with blocks := g.blocks.put r true } := by simp
    split
    · exact ⟨g.wait, hf, by simp [State.putFrog], rfl, fun k hk => by simp [State.frog_putFrog, hk]⟩
    · obtain ⟨w, hw⟩ := checkHead_idle' hf (.inl (blocked_of_has (has_put _ r true)))
      rw [hw]
      exact ⟨w, by simp, by simp [State.putFrog], rfl, fun k hk => by simp [State.frog_putFrog, hk]⟩

/-- Taking a reason out of a block set (R86): the reason is gone; with no WAITING head nothing else changes but a
registration wait. -/
theorem removeBlock_spec {f : FrogIx} {g : Frog} (r : BlockReason) (hg : s.frog f = some g) :
    (∃ h, (removeBlock f r s).1.frog f = some h ∧ h.params = g.params ∧ h.blocks = g.blocks.put r false ∧
      h.untracked = g.untracked ∧ h.capture = g.capture) ∧
    (∀ k, k ≠ f → (removeBlock f r s).1.frog k = s.frog k) ∧
    (headIn .waiting g.queue = false →
      (∃ w, (removeBlock f r s).1.frog f = some { g with blocks := g.blocks.put r false, wait := w }) ∧
      (removeBlock f r s).1.orders = s.orders ∧ (removeBlock f r s).2 = false) := by
  unfold removeBlock; rw [hg]; dsimp only
  split
  next h =>
    have hf : (raise (.frogBlock f r false (g.blocks.put r false))
        (s.putFrog f (some { g with blocks := g.blocks.put r false }))).frog f
          = some { g with blocks := g.blocks.put r false } := by simp
    obtain ⟨⟨k, h0, h1, h2, h3, h4⟩, h5⟩ := checkHead_kept hf
    refine ⟨⟨k, h0, h1, h2, h3, h4⟩, fun j hj => by rw [h5 j hj]; simp [State.frog_putFrog, hj], fun hq => ?_⟩
    obtain ⟨w, hw⟩ := checkHead_idle' hf (.inr hq)
    rw [hw]
    exact ⟨⟨w, by simp⟩, by simp [State.putFrog], rfl⟩
  next h =>
    have hp : g.blocks.put r false = g.blocks := by
      have hf : g.blocks.has r = false := by simpa using h
      rw [← hf, put_has]
    rw [hp]
    exact ⟨⟨g, hg, rfl, rfl, rfl, rfl⟩, fun _ _ => rfl, fun _ => ⟨⟨g.wait, hg⟩, rfl, rfl⟩⟩

/-! ## The terms of the statements (Safety.lean) -/

/-- The check of R93's three conditions. -/
theorem headReady_iff {g : Frog} : headReady s g = true ↔ mayServe s g := by
  have hb : g.blocks.blocked = false ↔ g.blocks =
      { dewire := false, stall := false, position := false, overflow := false, exit := false, dispatch := false } := by
    cases g.blocks; simp [BlockSet.blocked, and_assoc]
  have hp : ∀ i, s.powered i = true ↔ ∃ x, s.sect i = some x ∧ x.state = .live ∧ x.prot.supplyLost = false := by
    intro i; unfold State.powered; cases s.sect i <;> simp
  have ho : s.throwLive g.params.ctrlAddr = false ↔
      ∀ e ∈ s.orders, e.target = g.params.ctrlAddr → e.kind ≠ .throwNormal ∧ e.kind ≠ .throwReverse := by
    simp only [State.throwLive, List.any_eq_false, Bool.and_eq_true, decide_eq_true_eq, not_and, Bool.not_eq_true]
    refine forall_congr' fun e => forall_congr' fun _ => forall_congr' fun _ => ?_
    cases e.kind <;> simp [OrderKind.isThrow]
  simp only [headReady, Bool.and_eq_true, Bool.not_eq_true', hb, hp, ho, mayServe, and_assoc]

theorem noteFrog_checkHead (f : FrogIx) : noteFrog f (checkHead f s) = headChecked f s := rfl

theorem raise_putFrog (b : NoticeBody) (f : FrogIx) (x : Option Frog) :
    (raise b s).putFrog f x = raise b (s.putFrog f x) := by
  have h : (s.putFrog f x).globals = s.globals ∧ (s.putFrog f x).notices = s.notices := ⟨rfl, rfl⟩
  simp only [raise, h.1, h.2]
  split
  · rfl
  · split <;> rfl

/-- A blocked frog's head check: a WAITING head's registration wait goes. -/
theorem checkHead_blocked {f : FrogIx} {g : Frog} (hg : s.frog f = some g) (hb : g.blocks.blocked = true) :
    checkHead f s = (s.putFrog f (some { g with
      wait := if g.queue.head?.any (fun q => decide (q.phase = .waiting)) then none else g.wait }), false) := by
  have hn : headReady s g = false := by simp [headReady, hb]
  have hs : s.putFrog f (some { g with wait := g.wait }) = s := frog_self hg
  unfold checkHead; rw [hg]; dsimp only
  cases hq : g.queue with
  | nil => simp only [checkQueue, List.head?_nil, Option.any_none, Bool.false_eq_true, if_false]; rw [← hq, hs]
  | cons r rest =>
    unfold checkQueue; rw [hg]; dsimp only
    by_cases hr : r.phase = .waiting
    · simp [hr, hn, hq]
    · simp only [ne_eq, hr, not_false_eq_true, if_true, List.head?_cons, Option.any_some, decide_false, Bool.false_eq_true,
        if_false]
      rw [← hq, hs]

/-- Putting a reason into a block set (R86), whole. -/
theorem addBlock_eq {f : FrogIx} {g : Frog} (r : BlockReason) (hg : s.frog f = some g) :
    addBlock f r s = (blockGained f g r s, false) := by
  unfold addBlock blockGained; rw [hg]; dsimp only
  split
  next => rw [frog_self hg]
  next =>
    cases hb : g.blocks.blocked with
    | true => simp
    | false =>
      have hf : (raise (.frogBlock f r true (g.blocks.put r true))
          (s.putFrog f (some { g with blocks := g.blocks.put r true }))).frog f
            = some { g with blocks := g.blocks.put r true } := by simp
      rw [if_neg (by simp), checkHead_blocked hf (blocked_of_has (has_put _ r true)), raise_putFrog, putFrog_putFrog]
      simp

end Sys2Proof.Machine
end

