-- ==== Sys2Proof/Laws/PerInstr.lean ====
section
/-!
SUPPORT. The family `Arrival` of LAWS.json: what a well-formed command carries to the part fits a frame of spec/08 section 8.1.
-/

namespace Sys2Proof

open Machine

/-- The frame with which a command arrives at a part of own line address `own`: a field-device or ORDER frame, or the MGMT
frame of a request (sections 8.1 and 10.1). A timer's, a pin's and a port's own events carry none, and FRAME_ARRIVAL carries
bytes that need not be a frame. -/
def Instr.carried (own : LineAddr) : Instr → Option Frame
  | .sampleFrame dest src seq payload => some (makeFrame dest src kindSample seq payload)
  | .silenceTimerExpiry _ => none
  | .breakerReport dest src seq payload => some (makeFrame dest src kindBreaker seq payload)
  | .openTimeoutExpiry _ => none
  | .closeTimeoutExpiry _ => none
  | .testTimeoutExpiry _ => none
  | .deadWaitExpiry _ => none
  | .reclaimExpiry _ => none
  | .testResultFrame dest src seq payload => some (makeFrame dest src kindTestResult seq payload)
  | .orderInterceptSection dest src seq payload => some (makeFrame dest src kindOrder seq payload)
  | .orderInterceptFrog dest src seq payload => some (makeFrame dest src kindOrder seq payload)
  | .skateFrame dest src seq payload => some (makeFrame dest src kindSkate seq payload)
  | .settleExpiry _ => none
  | .skateHoldExpiry _ => none
  | .positionReport dest src seq payload => some (makeFrame dest src kindPosition seq payload)
  | .throwTimerExpiry _ => none
  | .exitTimerExpiry _ => none
  | .exitTimerFirstPeriodEnd _ => none
  | .vehicleFrame dest src seq payload => some (makeFrame dest src kindVehicle seq payload)
  | .ageTimerExpiry _ => none
  | .ackFrame dest src seq payload => some (makeFrame dest src kindAck seq payload)
  | .ackTimerExpiry _ => none
  | .fieldFrameStart => none
  | .uplinkFrameStart => none
  | .frameArrival _ _ => none
  | .unknownRequest src seq tag code args => some (makeFrame own src kindMgmt seq ([code] ++ beWord tag ++ args))
  | .status src seq tag args => some (makeFrame own src kindMgmt seq ([0x01] ++ beWord tag ++ args))
  | .setMode src seq tag args => some (makeFrame own src kindMgmt seq ([0x02] ++ beWord tag ++ args))
  | .restart src seq tag args => some (makeFrame own src kindMgmt seq ([0x03] ++ beWord tag ++ args))
  | .setGlobals src seq tag args => some (makeFrame own src kindMgmt seq ([0x04] ++ beWord tag ++ args))
  | .loadSection src seq tag args => some (makeFrame own src kindMgmt seq ([0x10] ++ beWord tag ++ args))
  | .unloadSection src seq tag args => some (makeFrame own src kindMgmt seq ([0x11] ++ beWord tag ++ args))
  | .loadFrog src seq tag args => some (makeFrame own src kindMgmt seq ([0x12] ++ beWord tag ++ args))
  | .unloadFrog src seq tag args => some (makeFrame own src kindMgmt seq ([0x13] ++ beWord tag ++ args))
  | .loadFilter src seq tag args => some (makeFrame own src kindMgmt seq ([0x14] ++ beWord tag ++ args))
  | .readSection src seq tag args => some (makeFrame own src kindMgmt seq ([0x20] ++ beWord tag ++ args))
  | .readFrog src seq tag args => some (makeFrame own src kindMgmt seq ([0x21] ++ beWord tag ++ args))
  | .readVehicle src seq tag args => some (makeFrame own src kindMgmt seq ([0x22] ++ beWord tag ++ args))
  | .readOrders src seq tag args => some (makeFrame own src kindMgmt seq ([0x23] ++ beWord tag ++ args))
  | .popFault src seq tag args => some (makeFrame own src kindMgmt seq ([0x30] ++ beWord tag ++ args))
  | .signOffVehicle src seq tag args => some (makeFrame own src kindMgmt seq ([0x31] ++ beWord tag ++ args))
  | .blockFrog src seq tag args => some (makeFrame own src kindMgmt seq ([0x40] ++ beWord tag ++ args))
  | .clearBlock src seq tag args => some (makeFrame own src kindMgmt seq ([0x41] ++ beWord tag ++ args))
  | .flushFrog src seq tag args => some (makeFrame own src kindMgmt seq ([0x42] ++ beWord tag ++ args))
  | .powerOnReset => none
  | .supplyDipReset => none
  | .resetPin => none
  | .resetEnd => none
  | .startUpHoldEnd _ _ => none
  | .reclaimPeriodEnd _ => none
  | .ageTimerPeriodEnd _ => none

namespace Laws

/-- A frame's LEN counts its payload and its length is 9 + LEN. -/
theorem makeFrame_fits (dest src : LineAddr) (kind seq : Byte) (payload : List Byte) (h : payload.length ≤ 120) :
    (makeFrame dest src kind seq payload).bytes.length = 9 + payload.length ∧
    ((makeFrame dest src kind seq payload).bytes.getD 6 0).toNat = payload.length := by
  constructor
  · simp [makeFrame, Frame.bytes, frameBody]; omega
  · have : (makeFrame dest src kind seq payload).bytes.getD 6 0 = u8 payload.length := rfl
    rw [this, u8_toNat]; omega

/-- What a well-formed command carries: a frame of at most 120 payload bytes whose LEN byte and length say so. -/
def Arrival.Statement (i : Instr) : Prop :=
  i.wellFormed = true → ∀ (own : LineAddr) (f : Frame), i.carried own = some f →
    f.payload.length ≤ 120 ∧ f.bytes.length = 9 + f.payload.length ∧ (f.bytes.getD 6 0).toNat = f.payload.length

theorem arrival_of_frame {i : Instr} {f : LineAddr → Frame} (hf : ∀ own, i.carried own = some (f own))
    (hp : i.wellFormed = true → ∀ own, (f own).payload.length ≤ 120)
    (hm : ∀ own, ∃ d s k q p, f own = makeFrame d s k q p) : Arrival.Statement i := by
  intro w own g hg
  obtain rfl : f own = g := by simpa [hf own] using hg
  have hl := hp w own
  obtain ⟨d, s, k, q, p, e⟩ := hm own
  rw [e] at hl ⊢
  exact ⟨hl, makeFrame_fits d s k q p hl⟩

theorem arrival_of_none {i : Instr} (h : ∀ own, i.carried own = none) : Arrival.Statement i := by
  intro _ own f hf
  simp [h own] at hf

theorem Arrival.sampleFrame (dest src : LineAddr) (seq : Byte) (payload : List Byte) :
    Arrival.Statement (.sampleFrame dest src seq payload) :=
  arrival_of_frame (fun _ => rfl) (fun w _ => by simpa [Instr.wellFormed, payloadFits, makeFrame] using w) fun _ => ⟨_, _, _, _, _, rfl⟩

theorem Arrival.silenceTimerExpiry (i : SectionIx) : Arrival.Statement (.silenceTimerExpiry i) := arrival_of_none fun _ => rfl

theorem Arrival.breakerReport (dest src : LineAddr) (seq : Byte) (payload : List Byte) :
    Arrival.Statement (.breakerReport dest src seq payload) :=
  arrival_of_frame (fun _ => rfl) (fun w _ => by simpa [Instr.wellFormed, payloadFits, makeFrame] using w) fun _ => ⟨_, _, _, _, _, rfl⟩

theorem Arrival.openTimeoutExpiry (i : SectionIx) : Arrival.Statement (.openTimeoutExpiry i) := arrival_of_none fun _ => rfl

theorem Arrival.closeTimeoutExpiry (i : SectionIx) : Arrival.Statement (.closeTimeoutExpiry i) := arrival_of_none fun _ => rfl

theorem Arrival.testTimeoutExpiry (i : SectionIx) : Arrival.Statement (.testTimeoutExpiry i) := arrival_of_none fun _ => rfl

theorem Arrival.deadWaitExpiry (i : SectionIx) : Arrival.Statement (.deadWaitExpiry i) := arrival_of_none fun _ => rfl

theorem Arrival.reclaimExpiry (i : SectionIx) : Arrival.Statement (.reclaimExpiry i) := arrival_of_none fun _ => rfl

theorem Arrival.testResultFrame (dest src : LineAddr) (seq : Byte) (payload : List Byte) :
    Arrival.Statement (.testResultFrame dest src seq payload) :=
  arrival_of_frame (fun _ => rfl) (fun w _ => by simpa [Instr.wellFormed, payloadFits, makeFrame] using w) fun _ => ⟨_, _, _, _, _, rfl⟩

theorem Arrival.orderInterceptSection (dest src : LineAddr) (seq : Byte) (payload : List Byte) :
    Arrival.Statement (.orderInterceptSection dest src seq payload) :=
  arrival_of_frame (fun _ => rfl) (fun w _ => by simpa [Instr.wellFormed, payloadFits, makeFrame] using w) fun _ => ⟨_, _, _, _, _, rfl⟩

theorem Arrival.orderInterceptFrog (dest src : LineAddr) (seq : Byte) (payload : List Byte) :
    Arrival.Statement (.orderInterceptFrog dest src seq payload) :=
  arrival_of_frame (fun _ => rfl) (fun w _ => by simpa [Instr.wellFormed, payloadFits, makeFrame] using w) fun _ => ⟨_, _, _, _, _, rfl⟩

theorem Arrival.skateFrame (dest src : LineAddr) (seq : Byte) (payload : List Byte) :
    Arrival.Statement (.skateFrame dest src seq payload) :=
  arrival_of_frame (fun _ => rfl) (fun w _ => by simpa [Instr.wellFormed, payloadFits, makeFrame] using w) fun _ => ⟨_, _, _, _, _, rfl⟩

theorem Arrival.settleExpiry (f : FrogIx) : Arrival.Statement (.settleExpiry f) := arrival_of_none fun _ => rfl

theorem Arrival.skateHoldExpiry (f : FrogIx) : Arrival.Statement (.skateHoldExpiry f) := arrival_of_none fun _ => rfl

theorem Arrival.positionReport (dest src : LineAddr) (seq : Byte) (payload : List Byte) :
    Arrival.Statement (.positionReport dest src seq payload) :=
  arrival_of_frame (fun _ => rfl) (fun w _ => by simpa [Instr.wellFormed, payloadFits, makeFrame] using w) fun _ => ⟨_, _, _, _, _, rfl⟩

theorem Arrival.throwTimerExpiry (f : FrogIx) : Arrival.Statement (.throwTimerExpiry f) := arrival_of_none fun _ => rfl

theorem Arrival.exitTimerExpiry (f : FrogIx) : Arrival.Statement (.exitTimerExpiry f) := arrival_of_none fun _ => rfl

theorem Arrival.exitTimerFirstPeriodEnd (f : FrogIx) : Arrival.Statement (.exitTimerFirstPeriodEnd f) := arrival_of_none fun _ => rfl

theorem Arrival.vehicleFrame (dest src : LineAddr) (seq : Byte) (payload : List Byte) :
    Arrival.Statement (.vehicleFrame dest src seq payload) :=
  arrival_of_frame (fun _ => rfl) (fun w _ => by simpa [Instr.wellFormed, payloadFits, makeFrame] using w) fun _ => ⟨_, _, _, _, _, rfl⟩

theorem Arrival.ageTimerExpiry (n : VehicleNumber) : Arrival.Statement (.ageTimerExpiry n) := arrival_of_none fun _ => rfl

theorem Arrival.ackFrame (dest src : LineAddr) (seq : Byte) (payload : List Byte) :
    Arrival.Statement (.ackFrame dest src seq payload) :=
  arrival_of_frame (fun _ => rfl) (fun w _ => by simpa [Instr.wellFormed, payloadFits, makeFrame] using w) fun _ => ⟨_, _, _, _, _, rfl⟩

theorem Arrival.ackTimerExpiry (target : LineAddr) : Arrival.Statement (.ackTimerExpiry target) := arrival_of_none fun _ => rfl

theorem Arrival.fieldFrameStart : Arrival.Statement (.fieldFrameStart) := arrival_of_none fun _ => rfl

theorem Arrival.uplinkFrameStart : Arrival.Statement (.uplinkFrameStart) := arrival_of_none fun _ => rfl

theorem Arrival.frameArrival (port : PortId) (bytes : List Byte) : Arrival.Statement (.frameArrival port bytes) := arrival_of_none fun _ => rfl

theorem Arrival.unknownRequest (src : LineAddr) (seq : Byte) (tag : BitVec 16) (code : Byte) (args : List Byte) :
    Arrival.Statement (.unknownRequest src seq tag code args) :=
  arrival_of_frame (fun _ => rfl) (fun w _ => by
    simp only [Instr.wellFormed, argsFit, Bool.and_eq_true, decide_eq_true_eq] at w
    simp [makeFrame]; omega) fun _ => ⟨_, _, _, _, _, rfl⟩

theorem Arrival.status (src : LineAddr) (seq : Byte) (tag : BitVec 16) (args : List Byte) :
    Arrival.Statement (.status src seq tag args) :=
  arrival_of_frame (fun _ => rfl) (fun w _ => by
    simp only [Instr.wellFormed, argsFit, decide_eq_true_eq] at w
    simp [makeFrame]; omega) fun _ => ⟨_, _, _, _, _, rfl⟩

theorem Arrival.setMode (src : LineAddr) (seq : Byte) (tag : BitVec 16) (args : List Byte) :
    Arrival.Statement (.setMode src seq tag args) :=
  arrival_of_frame (fun _ => rfl) (fun w _ => by
    simp only [Instr.wellFormed, argsFit, decide_eq_true_eq] at w
    simp [makeFrame]; omega) fun _ => ⟨_, _, _, _, _, rfl⟩

theorem Arrival.restart (src : LineAddr) (seq : Byte) (tag : BitVec 16) (args : List Byte) :
    Arrival.Statement (.restart src seq tag args) :=
  arrival_of_frame (fun _ => rfl) (fun w _ => by
    simp only [Instr.wellFormed, argsFit, decide_eq_true_eq] at w
    simp [makeFrame]; omega) fun _ => ⟨_, _, _, _, _, rfl⟩

theorem Arrival.setGlobals (src : LineAddr) (seq : Byte) (tag : BitVec 16) (args : List Byte) :
    Arrival.Statement (.setGlobals src seq tag args) :=
  arrival_of_frame (fun _ => rfl) (fun w _ => by
    simp only [Instr.wellFormed, argsFit, decide_eq_true_eq] at w
    simp [makeFrame]; omega) fun _ => ⟨_, _, _, _, _, rfl⟩

theorem Arrival.loadSection (src : LineAddr) (seq : Byte) (tag : BitVec 16) (args : List Byte) :
    Arrival.Statement (.loadSection src seq tag args) :=
  arrival_of_frame (fun _ => rfl) (fun w _ => by
    simp only [Instr.wellFormed, argsFit, decide_eq_true_eq] at w
    simp [makeFrame]; omega) fun _ => ⟨_, _, _, _, _, rfl⟩

theorem Arrival.unloadSection (src : LineAddr) (seq : Byte) (tag : BitVec 16) (args : List Byte) :
    Arrival.Statement (.unloadSection src seq tag args) :=
  arrival_of_frame (fun _ => rfl) (fun w _ => by
    simp only [Instr.wellFormed, argsFit, decide_eq_true_eq] at w
    simp [makeFrame]; omega) fun _ => ⟨_, _, _, _, _, rfl⟩

theorem Arrival.loadFrog (src : LineAddr) (seq : Byte) (tag : BitVec 16) (args : List Byte) :
    Arrival.Statement (.loadFrog src seq tag args) :=
  arrival_of_frame (fun _ => rfl) (fun w _ => by
    simp only [Instr.wellFormed, argsFit, decide_eq_true_eq] at w
    simp [makeFrame]; omega) fun _ => ⟨_, _, _, _, _, rfl⟩

theorem Arrival.unloadFrog (src : LineAddr) (seq : Byte) (tag : BitVec 16) (args : List Byte) :
    Arrival.Statement (.unloadFrog src seq tag args) :=
  arrival_of_frame (fun _ => rfl) (fun w _ => by
    simp only [Instr.wellFormed, argsFit, decide_eq_true_eq] at w
    simp [makeFrame]; omega) fun _ => ⟨_, _, _, _, _, rfl⟩

theorem Arrival.loadFilter (src : LineAddr) (seq : Byte) (tag : BitVec 16) (args : List Byte) :
    Arrival.Statement (.loadFilter src seq tag args) :=
  arrival_of_frame (fun _ => rfl) (fun w _ => by
    simp only [Instr.wellFormed, argsFit, decide_eq_true_eq] at w
    simp [makeFrame]; omega) fun _ => ⟨_, _, _, _, _, rfl⟩

theorem Arrival.readSection (src : LineAddr) (seq : Byte) (tag : BitVec 16) (args : List Byte) :
    Arrival.Statement (.readSection src seq tag args) :=
  arrival_of_frame (fun _ => rfl) (fun w _ => by
    simp only [Instr.wellFormed, argsFit, decide_eq_true_eq] at w
    simp [makeFrame]; omega) fun _ => ⟨_, _, _, _, _, rfl⟩

theorem Arrival.readFrog (src : LineAddr) (seq : Byte) (tag : BitVec 16) (args : List Byte) :
    Arrival.Statement (.readFrog src seq tag args) :=
  arrival_of_frame (fun _ => rfl) (fun w _ => by
    simp only [Instr.wellFormed, argsFit, decide_eq_true_eq] at w
    simp [makeFrame]; omega) fun _ => ⟨_, _, _, _, _, rfl⟩

theorem Arrival.readVehicle (src : LineAddr) (seq : Byte) (tag : BitVec 16) (args : List Byte) :
    Arrival.Statement (.readVehicle src seq tag args) :=
  arrival_of_frame (fun _ => rfl) (fun w _ => by
    simp only [Instr.wellFormed, argsFit, decide_eq_true_eq] at w
    simp [makeFrame]; omega) fun _ => ⟨_, _, _, _, _, rfl⟩

theorem Arrival.readOrders (src : LineAddr) (seq : Byte) (tag : BitVec 16) (args : List Byte) :
    Arrival.Statement (.readOrders src seq tag args) :=
  arrival_of_frame (fun _ => rfl) (fun w _ => by
    simp only [Instr.wellFormed, argsFit, decide_eq_true_eq] at w
    simp [makeFrame]; omega) fun _ => ⟨_, _, _, _, _, rfl⟩

theorem Arrival.popFault (src : LineAddr) (seq : Byte) (tag : BitVec 16) (args : List Byte) :
    Arrival.Statement (.popFault src seq tag args) :=
  arrival_of_frame (fun _ => rfl) (fun w _ => by
    simp only [Instr.wellFormed, argsFit, decide_eq_true_eq] at w
    simp [makeFrame]; omega) fun _ => ⟨_, _, _, _, _, rfl⟩

theorem Arrival.signOffVehicle (src : LineAddr) (seq : Byte) (tag : BitVec 16) (args : List Byte) :
    Arrival.Statement (.signOffVehicle src seq tag args) :=
  arrival_of_frame (fun _ => rfl) (fun w _ => by
    simp only [Instr.wellFormed, argsFit, decide_eq_true_eq] at w
    simp [makeFrame]; omega) fun _ => ⟨_, _, _, _, _, rfl⟩

theorem Arrival.blockFrog (src : LineAddr) (seq : Byte) (tag : BitVec 16) (args : List Byte) :
    Arrival.Statement (.blockFrog src seq tag args) :=
  arrival_of_frame (fun _ => rfl) (fun w _ => by
    simp only [Instr.wellFormed, argsFit, decide_eq_true_eq] at w
    simp [makeFrame]; omega) fun _ => ⟨_, _, _, _, _, rfl⟩

theorem Arrival.clearBlock (src : LineAddr) (seq : Byte) (tag : BitVec 16) (args : List Byte) :
    Arrival.Statement (.clearBlock src seq tag args) :=
  arrival_of_frame (fun _ => rfl) (fun w _ => by
    simp only [Instr.wellFormed, argsFit, decide_eq_true_eq] at w
    simp [makeFrame]; omega) fun _ => ⟨_, _, _, _, _, rfl⟩

theorem Arrival.flushFrog (src : LineAddr) (seq : Byte) (tag : BitVec 16) (args : List Byte) :
    Arrival.Statement (.flushFrog src seq tag args) :=
  arrival_of_frame (fun _ => rfl) (fun w _ => by
    simp only [Instr.wellFormed, argsFit, decide_eq_true_eq] at w
    simp [makeFrame]; omega) fun _ => ⟨_, _, _, _, _, rfl⟩

theorem Arrival.powerOnReset : Arrival.Statement (.powerOnReset) := arrival_of_none fun _ => rfl

theorem Arrival.supplyDipReset : Arrival.Statement (.supplyDipReset) := arrival_of_none fun _ => rfl

theorem Arrival.resetPin : Arrival.Statement (.resetPin) := arrival_of_none fun _ => rfl

theorem Arrival.resetEnd : Arrival.Statement (.resetEnd) := arrival_of_none fun _ => rfl

theorem Arrival.startUpHoldEnd (straps : Byte) (autorun : Bool) : Arrival.Statement (.startUpHoldEnd straps autorun) := arrival_of_none fun _ => rfl

theorem Arrival.reclaimPeriodEnd (i : SectionIx) : Arrival.Statement (.reclaimPeriodEnd i) := arrival_of_none fun _ => rfl

theorem Arrival.ageTimerPeriodEnd (n : VehicleNumber) : Arrival.Statement (.ageTimerPeriodEnd n) := arrival_of_none fun _ => rfl

end Laws

end Sys2Proof
end

