-- ==== Sys2Proof/Laws/Sections.lean ====
section
/-!
SUPPORT. What a section's entry to a state does, said once: the section entered, the other sections, the test units, and
that a live order stays live unless a TRIP or OPEN to its target cancels it.
-/

namespace Sys2Proof.Machine

variable {s : State}

/-! ## The order list only grows by a NORMAL registration -/

/-- An owner told that its order is registered has a live entry of that kind (R129 to R131). -/
theorem register_registered {l : List Order} {a : LineAddr} {k : OrderKind} (h : (register l a k).2.registered = true) :
    ∃ e ∈ (register l a k).1, e.target = a ∧ e.kind = k := by
  obtain ⟨h1, h2⟩ | ⟨-, -, -, h1⟩ | ⟨-, -, -, -, h1⟩ | ⟨h1, -⟩ := register_cases l a k
  · have hm : (register l a k).2 = .merged := by
      revert h h2; cases (register l a k).2 <;> simp [RegAnswer.registered]
    rw [h1]
    unfold register at hm
    split at hm
    · unfold registerFresh at hm; split at hm <;> cases hm
    next e he =>
      split at hm
      · exact ⟨e, List.mem_of_find?_eq_some he, by simpa using List.find?_some he, by assumption⟩
      · split at hm
        · unfold registerFresh at hm; split at hm <;> cases hm
        · cases hm
  · rw [h1]; simp
  · rw [h1]; simp
  · rw [h1] at h; cases h

/-- A NORMAL registration removes no entry (R129, R132). -/
theorem register_normal_prefix (l : List Order) (a : LineAddr) {k : OrderKind} (hk : k.urgent = false) :
    l <+: (register l a k).1 := by
  obtain ⟨h, -⟩ | ⟨-, -, -, h⟩ | ⟨-, hu, -⟩ | ⟨-, hu, -⟩ := register_cases l a k
  · rw [h]
  · rw [h]; exact List.prefix_append _ _
  · rw [hu] at hk; cases hk
  · rw [hu] at hk; cases hk

theorem throwKind_normal (r : Route) : (throwKind r).urgent = false := by cases r <;> rfl

/-- A check of a head removes no order. -/
theorem checkQueue_orders (f : FrogIx) (q : List Request) (s : State) : s.orders <+: (checkQueue f q s).1.orders := by
  induction q generalizing s with
  | nil => exact List.prefix_rfl
  | cons r rest ih =>
    unfold checkQueue
    split
    · exact List.prefix_rfl
    · split
      · exact List.prefix_rfl
      · split
        · split
          · split
            · exact List.prefix_rfl
            · exact ih (s.putFrog _ _)
          · unfold serveByThrow
            dsimp only
            split
            · exact register_normal_prefix _ _ (throwKind_normal _)
            · exact register_normal_prefix _ _ (throwKind_normal _)
        · exact List.prefix_rfl

theorem checkHead_orders (f : FrogIx) (s : State) : s.orders <+: (checkHead f s).1.orders := by
  unfold checkHead; split
  · exact checkQueue_orders _ _ _
  · exact List.prefix_rfl

@[simp] theorem raiseFrog_orders (f : FrogIx) : (raiseFrog f s).orders = s.orders := by
  unfold raiseFrog; split <;> simp

@[simp] theorem noteFrog_orders (f : FrogIx) (w : FrogWork) : (noteFrog f w).orders = w.1.orders := by
  unfold noteFrog; split <;> simp

/-- The heads of a section's frogs checked remove no order. -/
theorem checkHeadsOf_orders (i : SectionIx) (s : State) : s.orders <+: (checkHeadsOf i s).orders := by
  unfold checkHeadsOf
  generalize List.finRange 64 = l
  induction l generalizing s with
  | nil => exact List.prefix_rfl
  | cons f l ih =>
    refine List.IsPrefix.trans ?_ (ih _)
    dsimp only
    split
    · split
      · rw [noteFrog_orders]; exact checkHead_orders f s
      · exact List.prefix_rfl
    · exact List.prefix_rfl

theorem checkIfPowerChanged_orders (i : SectionIx) (b : Bool) (s : State) :
    s.orders <+: (checkIfPowerChanged i b s).orders := by
  unfold checkIfPowerChanged; split
  · exact List.prefix_rfl
  · exact checkHeadsOf_orders i s

@[simp] theorem checkIfPowerChanged_sections (i : SectionIx) (b : Bool) :
    (checkIfPowerChanged i b s).sections = s.sections := by
  unfold checkIfPowerChanged; split
  · rfl
  · exact sections_of_besideFrogs (besideFrogs_checkHeadsOf s i)

@[simp] theorem checkIfPowerChanged_units (i : SectionIx) (b : Bool) : (checkIfPowerChanged i b s).units = s.units := by
  unfold checkIfPowerChanged; split
  · rfl
  · exact units_of_besideFrogs (besideFrogs_checkHeadsOf s i)

@[simp] theorem sect_checkIfPowerChanged (i : SectionIx) (b : Bool) (j : SectionIx) :
    (checkIfPowerChanged i b s).sect j = s.sect j := sect_congr (by simp) j

@[simp] theorem unit_checkIfPowerChanged (i : SectionIx) (b : Bool) (u : UnitIx) :
    (checkIfPowerChanged i b s).unit u = s.unit u := unit_congr (by simp) u

/-! ## Registration by a section -/

@[simp] theorem raiseSection_sections (i : SectionIx) : (raiseSection i s).sections = s.sections := by
  unfold raiseSection; split <;> simp
@[simp] theorem raiseSection_units (i : SectionIx) : (raiseSection i s).units = s.units := by
  unfold raiseSection; split <;> simp
@[simp] theorem raiseSection_orders (i : SectionIx) : (raiseSection i s).orders = s.orders := by
  unfold raiseSection; split <;> simp
@[simp] theorem sect_raiseSection (i j : SectionIx) : (raiseSection i s).sect j = s.sect j := sect_congr (by simp) j
@[simp] theorem unit_raiseSection (i : SectionIx) (u : UnitIx) : (raiseSection i s).unit u = s.unit u :=
  unit_congr (by simp) u
@[simp] theorem raiseFlagSet_sections (i : SectionIx) (fl : Option SectionFlag) :
    (raiseFlagSet i fl s).sections = s.sections := by unfold raiseFlagSet; split <;> simp
@[simp] theorem raiseFlagSet_units (i : SectionIx) (fl : Option SectionFlag) : (raiseFlagSet i fl s).units = s.units := by
  unfold raiseFlagSet; split <;> simp
@[simp] theorem raiseFlagSet_orders (i : SectionIx) (fl : Option SectionFlag) :
    (raiseFlagSet i fl s).orders = s.orders := by unfold raiseFlagSet; split <;> simp
@[simp] theorem raiseFlagSet_frogs (i : SectionIx) (fl : Option SectionFlag) :
    (raiseFlagSet i fl s).frogs = s.frogs := by unfold raiseFlagSet; split <;> simp
@[simp] theorem sect_raiseFlagSet (i : SectionIx) (fl : Option SectionFlag) (j : SectionIx) :
    (raiseFlagSet i fl s).sect j = s.sect j := sect_congr (by simp) j
@[simp] theorem unit_raiseFlagSet (i : SectionIx) (fl : Option SectionFlag) (u : UnitIx) :
    (raiseFlagSet i fl s).unit u = s.unit u := unit_congr (by simp) u
@[simp] theorem raiseSupplyCleared_sections (i : SectionIx) (x : Sect) (st : SectionState) :
    (raiseSupplyCleared i x st s).sections = s.sections := by unfold raiseSupplyCleared; split <;> simp
@[simp] theorem raiseSupplyCleared_units (i : SectionIx) (x : Sect) (st : SectionState) :
    (raiseSupplyCleared i x st s).units = s.units := by unfold raiseSupplyCleared; split <;> simp
@[simp] theorem raiseSupplyCleared_orders (i : SectionIx) (x : Sect) (st : SectionState) :
    (raiseSupplyCleared i x st s).orders = s.orders := by unfold raiseSupplyCleared; split <;> simp
@[simp] theorem sect_raiseSupplyCleared (i : SectionIx) (x : Sect) (st : SectionState) (j : SectionIx) :
    (raiseSupplyCleared i x st s).sect j = s.sect j := sect_congr (by simp) j
@[simp] theorem unit_raiseSupplyCleared (i : SectionIx) (x : Sect) (st : SectionState) (u : UnitIx) :
    (raiseSupplyCleared i x st s).unit u = s.unit u := unit_congr (by simp) u

/-- A section that registers an order keeps every field but its registration wait, and with the order list it is as `asked`
says (R49). -/
theorem registerFor_spec {i : SectionIx} {x : Sect} (k : OrderKind) (h : s.sect i = some x) :
    (registerFor i k s).sect i = some { x with wait := (asked s.orders x.params.feederAddr k).2 } ∧
    (registerFor i k s).orders = (asked s.orders x.params.feederAddr k).1 := by
  simp only [registerFor, h, State.sect_putSect, if_true, State.putSect_orders, State.setOrders_orders, asked, and_true]
  cases (register s.orders x.params.feederAddr k).2 <;> rfl

theorem registerFor_others (i : SectionIx) (k : OrderKind) (s : State) {j : SectionIx} (h : j ≠ i) :
    (registerFor i k s).sect j = s.sect j := by
  unfold registerFor; split
  · rfl
  · simp [State.sect_putSect, h]

@[simp] theorem units_registerFor (i : SectionIx) (k : OrderKind) : (registerFor i k s).units = s.units := by
  unfold registerFor; split <;> rfl

@[simp] theorem unit_registerFor (i : SectionIx) (k : OrderKind) (u : UnitIx) :
    (registerFor i k s).unit u = s.unit u := by
  unfold registerFor; split <;> simp

@[simp] theorem partTime_registerFor (i : SectionIx) (k : OrderKind) : (registerFor i k s).partTime = s.partTime := by
  unfold registerFor; split <;> rfl

/-- A NORMAL registration by a section removes no order. -/
theorem registerFor_orders (i : SectionIx) {k : OrderKind} (hk : k.urgent = false) (s : State) :
    s.orders <+: (registerFor i k s).orders := by
  unfold registerFor; split
  · exact List.prefix_rfl
  · exact register_normal_prefix _ _ hk

/-! ## Test units -/

/-- The first waiting section is a waiting section. -/
theorem firstWaiting_mem {p j : SectionIx} {w : List SectionIx} (h : firstWaiting p w = some j) : j ∈ w := by
  simpa using List.find?_some h

/-- The first index of a range with a property is the least one. -/
theorem find?_finRange_some {n : Nat} {q : Fin n → Bool} {k : Fin n} :
    (List.finRange n).find? q = some k ↔ q k = true ∧ ∀ k', q k' = true → k ≤ k' := by
  rw [List.find?_eq_some_iff_getElem]
  constructor
  · rintro ⟨h, i, hi, rfl, hl⟩
    refine ⟨h, fun k' hk' => ?_⟩
    by_contra hlt
    have hlt : k'.val < i := by simpa [Fin.lt_def] using hlt
    have := hl k'.val hlt
    simp [hk'] at this
  · rintro ⟨h, hm⟩
    refine ⟨h, k.val, by simp, by simp, fun j hj => ?_⟩
    have hjn : j < n := hj.trans k.isLt
    simp only [List.getElem_finRange, Bool.not_eq_true']
    by_contra hq
    have hle := hm ⟨j, hjn⟩ (by simpa using hq)
    have : k.val ≤ j := hle
    omega

/-- The search of R55 finds the first waiting section in cyclic index order from the pointer. -/
theorem firstWaiting_iff {p j : SectionIx} {w : List SectionIx} : firstWaiting p w = some j ↔ firstFrom p w j := by
  have hsub : ∀ a b : SectionIx, a + (b - a) = b := fun a b => by simp
  rw [firstWaiting, List.find?_map, Option.map_eq_some_iff]
  simp only [find?_finRange_some, Function.comp_apply, decide_eq_true_eq, firstFrom]
  constructor
  · rintro ⟨k, ⟨hk, hm⟩, rfl⟩
    refine ⟨hk, fun m hmw => ?_⟩
    have := hm (m - p) (by rwa [hsub])
    rw [add_sub_cancel_left]
    exact this
  · rintro ⟨hj, hm⟩
    refine ⟨j - p, ⟨by rwa [hsub], fun k hk => ?_⟩, hsub _ _⟩
    have := hm _ hk
    rwa [add_sub_cancel_left] at this

/-- There is a first waiting section as soon as one waits (R55). -/
theorem firstWaiting_none {p : SectionIx} {w : List SectionIx} (h : firstWaiting p w = none) : w = [] := by
  rw [firstWaiting, List.find?_eq_none] at h
  refine List.eq_nil_iff_forall_not_mem.mpr fun j hj => ?_
  have := h j (List.mem_map.mpr ⟨j - p, List.mem_finRange _, by simp⟩)
  simp [hj] at this

/-- The grant of a unit (R42, R55): nothing, or the first waiting section enters TESTING as the unit's holder. -/
theorem grantUnit_cases (u : UnitIx) (s : State) :
    (grantUnit u s = s ∧ ((s.unit u).holder ≠ none ∨ (s.unit u).waiting = [])) ∨
    ∃ j, (s.unit u).holder = none ∧ firstWaiting (s.unit u).pointer (s.unit u).waiting = some j ∧
      grantUnit u s = enterTesting j (s.putUnit u { s.unit u with
        holder := some j, waiting := leaveSet j (s.unit u).waiting, pointer := j + 1 }) := by
  unfold grantUnit
  split
  next h => exact .inl ⟨rfl, .inl (by simp [h])⟩
  next h =>
    split
    next hf => exact .inl ⟨rfl, .inr (firstWaiting_none hf)⟩
    next j hf => exact .inr ⟨j, h, hf, rfl⟩

@[simp] theorem unit_editSect (j : SectionIx) (g : Sect → Sect) (u : UnitIx) : (s.editSect j g).unit u = s.unit u := by
  unfold State.editSect; split <;> simp

@[simp] theorem orders_editSect (j : SectionIx) (g : Sect → Sect) : (s.editSect j g).orders = s.orders := by
  unfold State.editSect; split <;> simp [State.putSect]

/-- A section that enters TESTING (R42), and the order list with its TEST registered. -/
theorem enterTesting_spec {j : SectionIx} {x : Sect} (h : s.sect j = some x) :
    (enterTesting j s).sect j = some { (x.entered s.partTime (.energizing .testing)) with
      wait := (asked s.orders x.params.feederAddr .test).2 } ∧
    (enterTesting j s).orders = (asked s.orders x.params.feederAddr .test).1 := by
  have he : (s.editSect j (Sect.entered s.partTime (.energizing .testing))).sect j
      = some (x.entered s.partTime (.energizing .testing)) := by simp [State.editSect, h]
  simpa [enterTesting, Sect.entered] using registerFor_spec .test he

theorem enterTesting_others (j : SectionIx) (s : State) {k : SectionIx} (h : k ≠ j) :
    (enterTesting j s).sect k = s.sect k := by
  rw [enterTesting, sect_raiseSection, registerFor_others _ _ _ h]
  unfold State.editSect; split
  · simp [State.sect_putSect, h]
  · rfl

@[simp] theorem unit_enterTesting (j : SectionIx) (u : UnitIx) : (enterTesting j s).unit u = s.unit u := by
  simp [enterTesting]

theorem enterTesting_orders (j : SectionIx) (s : State) : s.orders <+: (enterTesting j s).orders := by
  rw [enterTesting, raiseSection_orders]
  exact List.IsPrefix.trans (by simp) (registerFor_orders j rfl _)

/-- A grant removes no order. -/
theorem grantUnit_orders (u : UnitIx) (s : State) : s.orders <+: (grantUnit u s).orders := by
  obtain ⟨h, -⟩ | ⟨j, -, -, h⟩ := grantUnit_cases u s
  · rw [h]
  · rw [h]; exact enterTesting_orders j (s.putUnit u _)

/-- A grant touches no other unit. -/
theorem grantUnit_units (u : UnitIx) (s : State) {v : UnitIx} (hv : v ≠ u) : (grantUnit u s).unit v = s.unit v := by
  obtain ⟨h, -⟩ | ⟨j, -, -, h⟩ := grantUnit_cases u s <;> rw [h]
  simp [State.unit_putUnit, hv]

/-- What leaving a state does to the test unit removes no order. -/
theorem leaveTest_orders (i : SectionIx) (x : Sect) (o : TestOutcome) (s : State) :
    s.orders <+: (leaveTest i x o s).orders := by
  unfold leaveTest; split
  · exact List.prefix_rfl
  · unfold releaseUnit; split
    · exact grantUnit_orders _ (s.putUnit _ _)
    · exact List.prefix_rfl
  · exact List.prefix_rfl

/-- Leaving a state leaves the section itself as it was, unless it waits on the unit it holds. -/
theorem leaveTest_sect {i : SectionIx} {x : Sect} (o : TestOutcome) (s : State)
    (hw : x.state = .energizing .testing → i ∉ (s.unit x.params.testUnit).waiting) :
    (leaveTest i x o s).sect i = s.sect i := by
  unfold leaveTest; split
  · simp [withdrawFrom]
  next h =>
    unfold releaseUnit; split
    · obtain ⟨hg, -⟩ | ⟨j, -, hf, hg⟩ := grantUnit_cases x.params.testUnit (s.putUnit x.params.testUnit
        { s.unit x.params.testUnit with holder := none, lastTest := some (i, o) })
      · rw [hg]; simp
      · rw [hg]
        have hj : i ≠ j := fun e => hw h (by simpa [e] using firstWaiting_mem hf)
        rw [enterTesting_others _ _ hj]; simp
    · rfl
  · rfl

/-- Leaving a state touches no other test unit. -/
theorem leaveTest_units (i : SectionIx) (x : Sect) (o : TestOutcome) (s : State) {v : UnitIx} (hv : v ≠ x.params.testUnit) :
    (leaveTest i x o s).unit v = s.unit v := by
  unfold leaveTest; split
  · simp [withdrawFrom, State.unit_putUnit, hv]
  · unfold releaseUnit; split
    · rw [grantUnit_units _ _ hv]; simp [State.unit_putUnit, hv]
    · rfl
  · rfl

/-- Leaving a state other than TEST_WAIT and TESTING leaves the test units as they were. -/
theorem leaveTest_none {i : SectionIx} {x : Sect} (o : TestOutcome) (s : State) (h : x.state ≠ .energizing .testWait)
    (h' : x.state ≠ .energizing .testing) : leaveTest i x o s = s := by
  unfold leaveTest; split <;> first | rfl | contradiction

/-- What a section's departure from a state does to the other sections and the units: `x` is the section as it was, `t` the
state after, `l` the order list in which a section that is granted the unit registers (R42, R55 to R57, R63). -/
structure Departed (i : SectionIx) (x : Sect) (o : TestOutcome) (l : List Order) (s t : State) : Prop where
  units : ∀ v, v ≠ x.params.testUnit → t.unit v = s.unit v
  quiet : x.state ≠ .energizing .testWait → x.state ≠ .energizing .testing →
    (∀ j, j ≠ i → t.sect j = s.sect j) ∧ t.units = s.units
  withdrawn : x.state = .energizing .testWait → (∀ j, j ≠ i → t.sect j = s.sect j) ∧
    t.unit x.params.testUnit = { s.unit x.params.testUnit with waiting := leaveSet i (s.unit x.params.testUnit).waiting }
  freed : x.state = .energizing .testing → (s.unit x.params.testUnit).holder = some i →
    (s.unit x.params.testUnit).waiting = [] → (∀ j, j ≠ i → t.sect j = s.sect j) ∧
    t.unit x.params.testUnit = { s.unit x.params.testUnit with holder := none, lastTest := some (i, o) }
  granted : ∀ j, j ≠ i → x.state = .energizing .testing → (s.unit x.params.testUnit).holder = some i →
    firstFrom (s.unit x.params.testUnit).pointer (s.unit x.params.testUnit).waiting j →
    (∀ k, k ≠ i → k ≠ j → t.sect k = s.sect k) ∧
    t.unit x.params.testUnit = { holder := some j, waiting := leaveSet j (s.unit x.params.testUnit).waiting, pointer := j + 1
                                 lastTest := some (i, o) } ∧
    ∀ z, s.sect j = some z → t.sect j = some { (z.entered s.partTime (.energizing .testing)) with
      wait := (asked l z.params.feederAddr .test).2 }

/-- The order list after the departure of section `i`, which was `x`, where its own part has left the list `l`: with the TEST of
the section that is granted the unit registered, else as it was (R42, R55, R57). -/
structure OrdersLeft (i : SectionIx) (x : Sect) (l : List Order) (s t : State) : Prop where
  granted : ∀ j z, x.state = .energizing .testing → (s.unit x.params.testUnit).holder = some i →
    firstFrom (s.unit x.params.testUnit).pointer (s.unit x.params.testUnit).waiting j → s.sect j = some z → j ≠ i →
    t.orders = (asked l z.params.feederAddr .test).1
  kept : (x.state = .energizing .testing → (s.unit x.params.testUnit).waiting = []) → t.orders = l

/-- The same departure, seen from a state that agrees on the other sections, the units and part time, to one that agrees on
sections and units. -/
theorem Departed.congr {i : SectionIx} {x : Sect} {o : TestOutcome} {l : List Order} {s s' t t' : State}
    (h : Departed i x o l s' t') (hs : ∀ j, j ≠ i → s'.sect j = s.sect j) (hu : s'.units = s.units)
    (hp : s'.partTime = s.partTime) (ht : t.sections = t'.sections) (hv : t.units = t'.units) : Departed i x o l s t := by
  have hu' : ∀ v, s'.unit v = s.unit v := unit_congr hu
  have ht' : ∀ j, t.sect j = t'.sect j := sect_congr ht
  have hv' : ∀ v, t.unit v = t'.unit v := unit_congr hv
  obtain ⟨h1, h2, h3, h4, h5⟩ := h
  simp only [hu', hp, hu] at h1 h2 h3 h4 h5
  refine ⟨fun v hv0 => by rw [hv', h1 v hv0], fun a b => ?_, fun a => ?_, fun a b c => ?_, fun j hj a b c => ?_⟩
  · exact ⟨fun j hj => by rw [ht', (h2 a b).1 j hj, hs j hj], by rw [hv, (h2 a b).2]⟩
  · exact ⟨fun j hj => by rw [ht', (h3 a).1 j hj, hs j hj], by rw [hv', (h3 a).2]⟩
  · exact ⟨fun j hj => by rw [ht', (h4 a b c).1 j hj, hs j hj], by rw [hv', (h4 a b c).2]⟩
  · obtain ⟨g1, g2, g3⟩ := h5 j hj a b c
    exact ⟨fun k hk hkj => by rw [ht', g1 k hk hkj, hs k hk], by rw [hv', g2],
      fun z hz => by rw [ht', g3 z (by rw [hs j hj, hz])]⟩

/-- The same order list, seen between states that agree on what it rests on. -/
theorem OrdersLeft.congr {i : SectionIx} {x : Sect} {l : List Order} {s s' t t' : State} (h : OrdersLeft i x l s' t')
    (hs : ∀ j, j ≠ i → s'.sect j = s.sect j) (hu : s'.units = s.units) (ht : t.orders = t'.orders) :
    OrdersLeft i x l s t := by
  have hu' : ∀ v, s'.unit v = s.unit v := unit_congr hu
  obtain ⟨h1, h2⟩ := h
  simp only [hu'] at h1 h2
  exact ⟨fun j z a b c d e => by rw [ht, h1 j z a b c (by rw [hs j e, d]) e], fun a => by rw [ht, h2 a]⟩

/-- What leaving a state does to the test unit and the other sections (R55 to R57, R63). -/
theorem leaveTest_departed (i : SectionIx) (x : Sect) (o : TestOutcome) (s : State) :
    Departed i x o s.orders s (leaveTest i x o s) := by
  refine ⟨fun v hv => leaveTest_units i x o s hv, fun a b => ?_, fun a => ?_, fun a b c => ?_, fun j hj a b c => ?_⟩
  · rw [leaveTest_none o s a b]; exact ⟨fun _ _ => rfl, rfl⟩
  · simp [leaveTest, a, withdrawFrom]
  · simp only [leaveTest, a, releaseUnit, b, if_true]
    obtain ⟨hg, -⟩ | ⟨k, -, hf, -⟩ := grantUnit_cases x.params.testUnit (s.putUnit x.params.testUnit
      { s.unit x.params.testUnit with holder := none, lastTest := some (i, o) })
    · rw [hg]; simp
    · have := firstWaiting_mem hf
      simp [c] at this
  · simp only [leaveTest, a, releaseUnit, b, if_true]
    have hf : firstWaiting (s.unit x.params.testUnit).pointer (s.unit x.params.testUnit).waiting = some j :=
      firstWaiting_iff.mpr c
    have hg : grantUnit x.params.testUnit (s.putUnit x.params.testUnit
        { s.unit x.params.testUnit with holder := none, lastTest := some (i, o) })
      = enterTesting j ((s.putUnit x.params.testUnit
          { s.unit x.params.testUnit with holder := none, lastTest := some (i, o) }).putUnit x.params.testUnit
          { holder := some j, waiting := leaveSet j (s.unit x.params.testUnit).waiting, pointer := j + 1
            lastTest := some (i, o) }) := by
      simp [grantUnit, hf]
    rw [hg]
    refine ⟨fun k _ hk => by rw [enterTesting_others _ _ hk]; simp, by simp, fun z hz => ?_⟩
    exact (enterTesting_spec (by simpa using hz)).1

/-- What leaving a state does to the order list (R42, R55, R57). -/
theorem leaveTest_ordersLeft (i : SectionIx) (x : Sect) (o : TestOutcome) (s : State) :
    OrdersLeft i x s.orders s (leaveTest i x o s) := by
  refine ⟨fun j z a b c d _ => ?_, fun a => ?_⟩
  · have hf : firstWaiting (s.unit x.params.testUnit).pointer (s.unit x.params.testUnit).waiting = some j :=
      firstWaiting_iff.mpr c
    simp only [leaveTest, a, releaseUnit, b, if_true, grantUnit, State.unit_putUnit, hf]
    exact (enterTesting_spec (x := z) (by simpa using d)).2
  · unfold leaveTest
    split
    · rfl
    next ht =>
      unfold releaseUnit
      split
      · obtain ⟨hg, -⟩ | ⟨k, -, hf, -⟩ := grantUnit_cases x.params.testUnit (s.putUnit x.params.testUnit
          { s.unit x.params.testUnit with holder := none, lastTest := some (i, o) })
        · rw [hg]; rfl
        · have := firstWaiting_mem hf
          simp [a ht] at this
      · rfl
    · rfl

/-- A head whose section is not powered registers nothing when it is checked (R93). -/
theorem checkHead_orders_unpowered {f : FrogIx} {g : Frog} (hg : s.frog f = some g)
    (hp : s.powered g.params.powerSection = false) : (checkHead f s).1.orders = s.orders := by
  unfold checkHead; rw [hg]; dsimp only
  cases g.queue with
  | nil => rfl
  | cons r rest =>
    have : headReady s g = false := by simp [headReady, hp]
    unfold checkQueue
    simp only [hg, this]
    split <;> rfl

/-- The heads of the frogs of a section that is not powered register nothing when they are checked (R25, R93). -/
theorem checkHeadsOf_orders_unpowered {i : SectionIx} (hp : s.powered i = false) : (checkHeadsOf i s).orders = s.orders := by
  unfold checkHeadsOf
  generalize List.finRange 64 = l
  induction l generalizing s with
  | nil => rfl
  | cons f l ih =>
    rw [List.foldl_cons]
    split
    next g hg =>
      split
      next hi =>
        have hs : (noteFrog f (checkHead f s)).sect i = s.sect i := sect_congr (sections_of_besideFrogs (by simp)) i
        rw [ih (by simpa [State.powered, hs] using hp), noteFrog_orders, checkHead_orders_unpowered hg (hi ▸ hp)]
      · exact ih hp
    · exact ih hp

/-! ## Entry to a state -/

/-- The registration on entry to a state, the order list being `l` (R49): the list after it, and the wait left. -/
def entryAsked (l : List Order) (a : LineAddr) (st : SectionState) : List Order × Option OrderKind :=
  match entryOrder st with
  | some k => asked l a k
  | none => (l, none)

/-- What entry to a state other than TEST_WAIT and TESTING does to the section, the other sections, the units and, unless the state
is LIVE, whose frogs may register, the order list. -/
theorem enterState_spec {i : SectionIx} {x : Sect} (st : SectionState) (fl : Option SectionFlag) (o : TestOutcome)
    (hx : s.sect i = some x)
    (hw : x.state = .energizing .testing → i ∉ (s.unit x.params.testUnit).waiting) :
    (enterState i st fl o s).sect i = some { x.entered s.partTime st with
      wait := (entryAsked s.orders x.params.feederAddr st).2 } ∧
    (∃ l, Departed i x o l s (enterState i st fl o s)) ∧
    (st ≠ .live → Departed i x o (entryAsked s.orders x.params.feederAddr st).1 s (enterState i st fl o s) ∧
      OrdersLeft i x (entryAsked s.orders x.params.feederAddr st).1 s (enterState i st fl o s)) := by
  obtain ⟨s1, hs1⟩ : ∃ s1, s1 = raiseFlagSet i fl (raiseSupplyCleared i x st
    (raiseSection i (registerEntry i st (s.putSect i (some (x.entered s.partTime st)))))) := ⟨_, rfl⟩
  have he : enterState i st fl o s = if Config.grantBeforeHeads
      then checkIfPowerChanged i (s.powered i) (leaveTest i x o s1)
      else leaveTest i x o (checkIfPowerChanged i (s.powered i) s1) := by
    simp only [enterState, hx, hs1]
  have hreg : s1.sect i = some { x.entered s.partTime st with wait := (entryAsked s.orders x.params.feederAddr st).2 } ∧
      s1.orders = (entryAsked s.orders x.params.feederAddr st).1 := by
    rw [hs1]
    simp only [sect_raiseFlagSet, sect_raiseSupplyCleared, sect_raiseSection, raiseFlagSet_orders,
      raiseSupplyCleared_orders, raiseSection_orders]
    cases hk : entryOrder st with
    | none => simp [registerEntry, entryAsked, hk, Sect.entered]
    | some k =>
      have h0 : (s.putSect i (some (x.entered s.partTime st))).sect i = some (x.entered s.partTime st) := by simp
      simpa [registerEntry, entryAsked, hk, Sect.entered] using registerFor_spec k h0
  have hoth : ∀ j, j ≠ i → s1.sect j = s.sect j := by
    intro j hj
    have h0 : (s.putSect i (some (x.entered s.partTime st))).sect j = s.sect j := by simp [State.sect_putSect, hj]
    rw [hs1]
    simp only [sect_raiseFlagSet, sect_raiseSupplyCleared, sect_raiseSection, registerEntry]
    split
    · rw [registerFor_others _ _ _ hj, h0]
    · exact h0
  have huns : s1.units = s.units := by
    rw [hs1]
    simp only [raiseFlagSet_units, raiseSupplyCleared_units, raiseSection_units, registerEntry]
    split <;> simp
  have hun : ∀ v, s1.unit v = s.unit v := unit_congr huns
  have hp : s1.partTime = s.partTime := partTime_of_besideSections (by rw [hs1]; simp)
  have hp' : (checkIfPowerChanged i (s.powered i) s1).partTime = s.partTime :=
    (partTime_of_besideSections (by simp)).trans hp
  clear hs1
  obtain ⟨hsi, hor⟩ := hreg
  have hcheck : ∀ t : State, t.sect i = s1.sect i → st ≠ .live →
      (checkIfPowerChanged i (s.powered i) t).orders = t.orders := by
    intro t ht hst
    unfold checkIfPowerChanged; split
    · rfl
    · exact checkHeadsOf_orders_unpowered (by simp [State.powered, ht, hsi, Sect.entered, hst])
  have hself : (leaveTest i x o s1).sect i = s1.sect i := leaveTest_sect o s1 (by rwa [hun])
  refine ⟨?_, ?_, fun hst => ?_⟩
  · rw [he]; split
    · rw [sect_checkIfPowerChanged, hself, hsi]
    · rw [leaveTest_sect o _ (by simpa [hun] using hw), sect_checkIfPowerChanged, hsi]
  · rw [he]; split
    · exact ⟨_, (leaveTest_departed i x o s1).congr hoth huns hp (by simp) (by simp)⟩
    · exact ⟨_, (leaveTest_departed i x o (checkIfPowerChanged i (s.powered i) s1)).congr
        (fun j hj => by rw [sect_checkIfPowerChanged, hoth j hj]) (by simp [huns]) hp' rfl rfl⟩
  · rw [he, ← hor]; split
    · exact ⟨(leaveTest_departed i x o s1).congr hoth huns hp (by simp) (by simp),
        (leaveTest_ordersLeft i x o s1).congr hoth huns (hcheck _ hself hst)⟩
    · rw [← hcheck s1 rfl hst]
      exact ⟨(leaveTest_departed i x o (checkIfPowerChanged i (s.powered i) s1)).congr
          (fun j hj => by rw [sect_checkIfPowerChanged, hoth j hj]) (by simp [huns]) hp' rfl rfl,
        (leaveTest_ordersLeft i x o (checkIfPowerChanged i (s.powered i) s1)).congr
          (fun j hj => by rw [sect_checkIfPowerChanged, hoth j hj]) (by simp [huns]) rfl⟩

/-- Entry to a state, from a state in which the section's record was edited without a change of state or parameters. -/
theorem enterState_edited {i : SectionIx} {x : Sect} (g : Sect → Sect) (st : SectionState) (fl : Option SectionFlag)
    (o : TestOutcome) (hx : s.sect i = some x) (hs : (g x).state = x.state) (hp : (g x).params = x.params)
    (hw : x.state = .energizing .testing → i ∉ (s.unit x.params.testUnit).waiting) :
    (enterState i st fl o (s.editSect i g)).sect i = some { (g x).entered s.partTime st with
      wait := (entryAsked s.orders x.params.feederAddr st).2 } ∧
    (∃ l, Departed i x o l s (enterState i st fl o (s.editSect i g))) ∧
    (st ≠ .live →
      Departed i x o (entryAsked s.orders x.params.feederAddr st).1 s (enterState i st fl o (s.editSect i g)) ∧
      OrdersLeft i x (entryAsked s.orders x.params.feederAddr st).1 s (enterState i st fl o (s.editSect i g))) := by
  have he : s.editSect i g = s.putSect i (some (g x)) := by simp [State.editSect, hx]
  rw [he]
  obtain ⟨h1, ⟨l, h2⟩, h3⟩ := enterState_spec (s := s.putSect i (some (g x))) (x := g x) st fl o
    (State.sect_putSect_same s i _) (by rw [hs, hp]; simpa using hw)
  rw [hp] at h1 h3
  have hsame : ∀ j, j ≠ i → (s.putSect i (some (g x))).sect j = s.sect j := fun j hj => by simp [State.sect_putSect, hj]
  have hd : ∀ m, Departed i (g x) o m (s.putSect i (some (g x))) (enterState i st fl o (s.putSect i (some (g x)))) →
      Departed i x o m s (enterState i st fl o (s.putSect i (some (g x)))) := by
    intro m hm
    have : Departed i x o m (s.putSect i (some (g x))) (enterState i st fl o (s.putSect i (some (g x)))) := by
      refine ⟨?_, ?_, ?_, ?_, ?_⟩ <;> simp only [← hs, ← hp]
      exacts [hm.units, hm.quiet, hm.withdrawn, hm.freed, hm.granted]
    exact this.congr hsame rfl rfl rfl rfl
  refine ⟨h1, ⟨l, hd l h2⟩, fun hst => ⟨hd _ (h3 hst).1, ?_⟩⟩
  obtain ⟨a, b⟩ := (h3 hst).2
  rw [hs, hp] at a b
  exact OrdersLeft.congr ⟨a, b⟩ hsame rfl rfl

/-- A lock-out (spec/02 section 2.2). -/
theorem lockOut_spec {i : SectionIx} {x : Sect} (r : LockReason) (fl : Option SectionFlag) (o : TestOutcome)
    (hx : s.sect i = some x) (hw : x.state = .energizing .testing → i ∉ (s.unit x.params.testUnit).waiting) :
    (lockOut i r fl o s).sect i = some { x.entered s.partTime .lockedOut with lockReason := some r } ∧
    Departed i x o s.orders s (lockOut i r fl o s) ∧ OrdersLeft i x s.orders s (lockOut i r fl o s) := by
  obtain ⟨h1, -, h3⟩ := enterState_edited (fun x => { x with lockReason := some r }) .lockedOut fl o hx rfl rfl hw
  exact ⟨h1, h3 nofun⟩

/-- An attempt that fails (R45). -/
theorem failAttempt_spec {i : SectionIx} {x : Sect} (c : LockReason) (fl : Option SectionFlag) (o : TestOutcome)
    (hx : s.sect i = some x) (hl : x.state ≠ .live)
    (hw : x.state = .energizing .testing → i ∉ (s.unit x.params.testUnit).waiting) :
    (failAttempt i c fl o s).sect i = some { x with
      state := (afterFailure c x).1, lockReason := (afterFailure c x).2, wait := none
      timer := restingTimer s.partTime (afterFailure c x).1 x.params } ∧
    Departed i x o s.orders s (failAttempt i c fl o s) ∧ OrdersLeft i x s.orders s (failAttempt i c fl o s) := by
  have hlock : ∀ r, (x.entered s.partTime .lockedOut) = { x with state := .lockedOut, timer := .stopped, wait := none } ∧
      (lockOut i r fl o s).sect i = some { x with state := .lockedOut, timer := .stopped, wait := none, lockReason := some r } := by
    intro r
    have he : (x.entered s.partTime .lockedOut) = { x with state := .lockedOut, timer := .stopped, wait := none } := by
      simp [Sect.entered, hl, entryTimer]
    refine ⟨he, ?_⟩
    rw [(lockOut_spec r fl o hx hw).1, he]
  unfold failAttempt afterFailure
  simp only [hx]
  split
  next ho =>
    rw [if_pos ho]
    split
    · obtain ⟨h1, -, h3⟩ := enterState_spec .deadWait fl o hx hw
      refine ⟨?_, h3 nofun⟩
      rw [h1]; simp [Sect.entered, hl, entryTimer, restingTimer, Timer.start, entryAsked, entryOrder]
    · exact ⟨(hlock .exhausted).2, (lockOut_spec _ fl o hx hw).2⟩
  next ho =>
    rw [if_neg (by simpa using ho)]
    exact ⟨(hlock c).2, (lockOut_spec _ fl o hx hw).2⟩

/-- In a state whose test units are in order, a section in TESTING holds its unit and waits on none (R54, R55). -/
theorem UnitOk.testing {i : SectionIx} {x : Sect} (h : UnitOk s x.params.testUnit) (hx : s.sect i = some x)
    (ht : x.state = .energizing .testing) :
    (s.unit x.params.testUnit).holder = some i ∧ i ∉ (s.unit x.params.testUnit).waiting := by
  refine ⟨(h.holder i).mpr ⟨x, hx, ht, rfl⟩, fun hw => ?_⟩
  obtain ⟨y, hy, hs, -⟩ := (h.waiting i).mp hw
  rw [hx] at hy; cases hy; rw [ht] at hs; cases hs

/-- With the test units in order, a departure changes another section and the order list only to grant it the unit left (R42,
R57). -/
theorem Departed.othersKept {t : State} {i : SectionIx} {x y : Sect} {o : TestOutcome} {l : List Order}
    (hd : Departed i x o l s t) (ho : OrdersLeft i x l s t) (hr : s.activity = .running) (h : UnitsOk s)
    (hx : s.sect i = some x) (hy : t.sect i = some y) (hl : y.state ≠ .energizing .testing) : othersKept i l s t := by
  have hgr : ∀ j, Machine.granted i s t j ↔ x.state = .energizing .testing ∧
      firstFrom (s.unit x.params.testUnit).pointer (s.unit x.params.testUnit).waiting j := by
    intro j
    constructor
    · rintro ⟨x', y', h1, h2, h3, -, h5⟩
      rw [hx] at h1; cases h1
      exact ⟨h3, h5⟩
    · rintro ⟨h1, h2⟩
      exact ⟨x, y, hx, hy, h1, hl, h2⟩
  refine ⟨fun j hj => ⟨fun hg => ?_, fun hg => ?_⟩, fun hn => ho.kept fun ht => ?_⟩
  · obtain ⟨ht, hf⟩ := (hgr j).mp hg
    obtain ⟨z, hz, hz1, hz2⟩ := ((h hr x.params.testUnit).waiting j).mp hf.1
    have hh := ((h hr _).testing hx ht).1
    have h1 := (hd.granted j hj ht hh hf).2.2 z hz
    exact ⟨z, hz, by rw [h1]; simp [Sect.entered, hz1, entryTimer, Timer.start], ho.granted j z ht hh hf hz hj⟩
  · by_cases hw : x.state = .energizing .testWait
    · exact (hd.withdrawn hw).1 j hj
    · by_cases ht : x.state = .energizing .testing
      · have hh := ((h hr _).testing hx ht).1
        cases hf : firstWaiting (s.unit x.params.testUnit).pointer (s.unit x.params.testUnit).waiting with
        | none => exact (hd.freed ht hh (firstWaiting_none hf)).1 j hj
        | some k =>
          have hf := firstWaiting_iff.mp hf
          have hjk : j ≠ k := fun e => hg ((hgr j).mpr ⟨ht, e ▸ hf⟩)
          have hki : k ≠ i := fun e => ((h hr _).testing hx ht).2 (e ▸ hf.1)
          exact (hd.granted k hki ht hh hf).1 j hj hjk
      · exact (hd.quiet hw ht).1 j hj
  · cases hf : firstWaiting (s.unit x.params.testUnit).pointer (s.unit x.params.testUnit).waiting with
    | none => exact firstWaiting_none hf
    | some k => exact absurd ((hgr k).mpr ⟨ht, firstWaiting_iff.mp hf⟩) (hn k)

/-- With the test units in order, a departure leaves the units as R55 to R57 and R63 say. -/
theorem Departed.unitsAfter {t : State} {i : SectionIx} {x : Sect} {o : TestOutcome} {l : List Order}
    (hd : Departed i x o l s t)
    (hr : s.activity = .running) (h : UnitsOk s) (hx : s.sect i = some x)
    (hl : ∀ y, t.sect i = some y → y.state ≠ .energizing .testing ∧ y.state ≠ .energizing .testWait) :
    unitsAfter i o s t := by
  intro x' y hx' hy
  rw [hx] at hx'; cases hx'
  obtain ⟨hl1, hl2⟩ := hl y hy
  refine ⟨fun u hu => ?_, fun hw _ => (hd.withdrawn hw).2, fun ht _ => ⟨fun he => ?_, fun j hf => ?_⟩⟩
  · obtain hu | hu | ⟨hu, hu'⟩ := hu
    · exact hd.units u hu
    · exact unit_congr (hd.quiet (hu ▸ hl2) (hu ▸ hl1)).2 u
    · exact unit_congr (hd.quiet hu hu').2 u
  · simp [(hd.freed ht ((h hr _).testing hx ht).1 he).2, he]
  · exact (hd.granted j (fun e => ((h hr _).testing hx ht).2 (e ▸ hf.1)) ht ((h hr _).testing hx ht).1 hf).2.1

/-! ## Attempts -/

theorem mem_joinSet {i j : SectionIx} {w : List SectionIx} : j ∈ joinSet i w ↔ j = i ∨ j ∈ w := by
  simp [joinSet]

/-- A section passes to TEST_WAIT; with its unit in order it is granted the unit exactly when the unit is free (R40, R42, R54,
R55). -/
theorem passToTestWait_spec {i : SectionIx} {x : Sect} (hx : s.sect i = some x) (hl : x.state ≠ .live)
    (hf : (s.unit x.params.testUnit).holder = none → (s.unit x.params.testUnit).waiting = []) :
    joinsUnit i x s (passToTestWait i s) ∧ ∀ j, j ≠ i → (passToTestWait i s).sect j = s.sect j := by
  obtain ⟨s1, hs1⟩ : ∃ s1, s1 = (s.putSect i (some (x.entered s.partTime (.energizing .testWait)))).putUnit
    x.params.testUnit { s.unit x.params.testUnit with waiting := joinSet i (s.unit x.params.testUnit).waiting } := ⟨_, rfl⟩
  have hu : s1.unit x.params.testUnit
      = { s.unit x.params.testUnit with waiting := joinSet i (s.unit x.params.testUnit).waiting } := by rw [hs1]; simp
  have hsi : s1.sect i = some (x.entered s.partTime (.energizing .testWait)) := by rw [hs1]; simp
  have hso : ∀ j, j ≠ i → s1.sect j = s.sect j := fun j hj => by rw [hs1]; simp [State.sect_putSect, hj]
  have huo : ∀ v, v ≠ x.params.testUnit → s1.unit v = s.unit v := fun v hv => by rw [hs1]; simp [State.unit_putUnit, hv]
  have hpt : s1.partTime = s.partTime := by rw [hs1]; rfl
  have hor : s1.orders = s.orders := by rw [hs1]; rfl
  have hrest : (passToTestWait i s).sections = (grantUnit x.params.testUnit s1).sections ∧
      (passToTestWait i s).units = (grantUnit x.params.testUnit s1).units ∧
      (passToTestWait i s).orders = (grantUnit x.params.testUnit s1).orders := by
    simp only [passToTestWait, hx, hs1, State.unit_putSect]
    split
    · split <;> simp
    · exact ⟨rfl, rfl, rfl⟩
  have hsec := sect_congr hrest.1
  have hun := unit_congr hrest.2.1
  have hord := hrest.2.2
  clear hs1 hrest
  obtain ⟨hg, hor'⟩ | ⟨j, hh, hfst, hg⟩ := grantUnit_cases x.params.testUnit s1
  · have hne : (s.unit x.params.testUnit).holder ≠ none := by
      obtain h | h := hor'
      · simpa [hu] using h
      · have : i ∈ (s1.unit x.params.testUnit).waiting := by rw [hu]; exact mem_joinSet.mpr (.inl rfl)
        rw [h] at this; cases this
    refine ⟨⟨fun h => absurd h hne, fun _ => ⟨?_, ?_, ?_⟩, fun u h => ?_⟩, fun k hk => ?_⟩
    · rw [hun, hg, hu]; simp [joinSet]
    · rw [hsec, hg, hsi]; simp [Sect.entered, hl, entryTimer]
    · rw [hord, hg, hor]
    · rw [hun, hg, huo u h]
    · rw [hsec, hg, hso k hk]
  · have hh' : (s.unit x.params.testUnit).holder = none := by simpa [hu] using hh
    have hj : j = i := by
      have := firstWaiting_mem hfst
      rw [hu] at this
      simpa [mem_joinSet, hf hh'] using this
    subst hj
    obtain ⟨h1, h2⟩ := enterTesting_spec (s := s1.putUnit x.params.testUnit { s1.unit x.params.testUnit with
      holder := some j, waiting := leaveSet j (s1.unit x.params.testUnit).waiting, pointer := j + 1 }) (j := j)
      (by simpa using hsi)
    have hempty : leaveSet j (joinSet j []) = [] := by simp [leaveSet, joinSet]
    refine ⟨⟨fun _ => ⟨?_, ?_, ?_⟩, fun h => absurd hh' h, fun u h => ?_⟩, fun k hk => ?_⟩
    · rw [hun, hg]; simp [hu, hf hh', hempty]
    · rw [hsec, hg, h1]; simp [Sect.entered, hl, entryTimer, Timer.start, State.putUnit, State.setUnits, hpt, hor]
    · rw [hord, hg, h2]; simp [Sect.entered, hor]
    · rw [hun, grantUnit_units _ _ h, huo u h]
    · rw [hsec, hg, enterTesting_others _ _ hk]; simp [hso k hk]

/-- An attempt begins (R40): COOLING while H is too high, else the passage to TEST_WAIT, with its origin and attempt count. -/
theorem beginAttempt_spec {i : SectionIx} {x : Sect} (o : Origin) (n : Nat) (hx : s.sect i = some x)
    (hl : x.state ≠ .live)
    (hf : (s.unit x.params.testUnit).holder = none → (s.unit x.params.testUnit).waiting = []) :
    (x.params.hTrip / 2 ≤ x.prot.h → (beginAttempt i o n s).sect i = some { x with
      state := .energizing .cooling, origin := some o, attempts := n, timer := .stopped, wait := none }) ∧
    (x.prot.h < x.params.hTrip / 2 → joinsUnit i { x with origin := some o, attempts := n } s (beginAttempt i o n s)) ∧
    (∀ j, j ≠ i → (beginAttempt i o n s).sect j = s.sect j) := by
  obtain ⟨y, hy⟩ : ∃ y : Sect, y = { x with
    state := .energizing .cooling, origin := some o, attempts := n, timer := .stopped, wait := none } := ⟨_, rfl⟩
  have hye : ({ (x.entered s.partTime (.energizing .cooling)) with origin := some o, attempts := n } : Sect) = y := by
    rw [hy]; simp [Sect.entered, hl, entryTimer]
  have he : beginAttempt i o n s
      = if y.cool then passToTestWait i (s.putSect i (some y)) else raiseSection i (s.putSect i (some y)) := by
    simp only [beginAttempt, hx, hye]
  have hc : y.cool = decide (x.prot.h < x.params.hTrip / 2) := by rw [hy]; rfl
  have hu : y.params = x.params := by rw [hy]
  rw [he, hc]
  by_cases h : x.prot.h < x.params.hTrip / 2
  · obtain ⟨⟨h1, h2, h3⟩, h4⟩ := passToTestWait_spec (s := s.putSect i (some y)) (State.sect_putSect_same s i _)
      (by rw [hy]; simp) (by rw [hu]; simpa using hf)
    refine ⟨fun h' => absurd h (by omega), fun _ => ?_, fun j hj => ?_⟩
    · rw [if_pos (by simpa using h)]
      simp only [State.unit_putSect, hu] at h1 h2 h3
      exact ⟨by rw [hy] at *; exact h1, by rw [hy] at *; exact h2, by rw [hy] at *; exact h3⟩
    · rw [if_pos (by simpa using h), h4 j hj]; simp [State.sect_putSect, hj]
  · refine ⟨fun _ => ?_, fun h' => absurd h' h, fun j hj => ?_⟩
    · rw [if_neg (by simpa using h), sect_raiseSection, State.sect_putSect_same, hy]
    · rw [if_neg (by simpa using h), sect_raiseSection]; simp [State.sect_putSect, hj]

end Sys2Proof.Machine
end

