-- ==== Sys2Proof/Laws/Vehicles.lean ====
section
/-!
SUPPORT. What the vehicle table does when an event needs an entry (R110, R111): the entry to evict, the list with an entry put
in its place, and the four ways an entry is obtained, in the terms of Safety.lean.
-/

namespace Sys2Proof.Machine

variable {s : State}

theorem faulted_eq_false {v : Vehicle} : v.faulted = false ↔ faultFree v := by
  cases h : v.dewire <;> simp [Vehicle.faulted, faultFree, h]

/-- `b` goes before `v` or is `v`: greater age, or equal age and no higher number. -/
def Vehicle.goesFirst (b v : Vehicle) : Prop := v.age < b.age ∨ v.age = b.age ∧ b.number ≤ v.number

theorem Vehicle.goesFirst_trans {a b c : Vehicle} (h : a.goesFirst b) (k : b.goesFirst c) : a.goesFirst c := by
  simp only [Vehicle.goesFirst, Fin.le_def] at *; omega

/-- The entry to evict (R110): there is one if some entry is fault-free, and it goes before every such entry. -/
theorem evictee_spec (l : List Vehicle) :
    (evictee l = none ↔ ∀ v ∈ l, ¬ faultFree v) ∧
    ∀ e, evictee l = some e → e ∈ l ∧ faultFree e ∧ ∀ v ∈ l, faultFree v → e.goesFirst v := by
  let pick : Option Vehicle → Vehicle → Option Vehicle := fun best v => match best with
    | none => some v
    | some b => if b.age < v.age ∨ (b.age = v.age ∧ v.number < b.number) then some v else some b
  have key : ∀ (m : List Vehicle) (b : Vehicle), ∃ e, m.foldl pick (some b) = some e ∧ (e = b ∨ e ∈ m) ∧
      e.goesFirst b ∧ ∀ v ∈ m, e.goesFirst v := by
    intro m
    induction m with
    | nil => exact fun b => ⟨b, rfl, .inl rfl, .inr ⟨rfl, le_refl _⟩, fun v hv => by simp at hv⟩
    | cons w m ih =>
      intro b
      by_cases h : b.age < w.age ∨ (b.age = w.age ∧ w.number < b.number)
      · obtain ⟨e, h1, h2, h3, h4⟩ := ih w
        refine ⟨e, by simpa [pick, h] using h1, .inr (by simpa using h2), ?_, fun v hv => ?_⟩
        · exact Vehicle.goesFirst_trans h3 (by simp only [Vehicle.goesFirst, Fin.le_def, Fin.lt_def] at *; omega)
        · obtain rfl | hv := List.mem_cons.mp hv
          · exact h3
          · exact h4 v hv
      · obtain ⟨e, h1, h2, h3, h4⟩ := ih b
        refine ⟨e, by simpa [pick, h] using h1, h2.imp id (List.mem_cons_of_mem _), h3, fun v hv => ?_⟩
        obtain rfl | hv := List.mem_cons.mp hv
        · exact Vehicle.goesFirst_trans h3 (by simp only [Vehicle.goesFirst, Fin.le_def, Fin.lt_def] at *; omega)
        · exact h4 v hv
  have mem : ∀ v, v ∈ l.filter (fun v => !v.faulted) ↔ v ∈ l ∧ faultFree v := fun v => by
    simp [List.mem_filter, faulted_eq_false]
  show (((l.filter fun v => !v.faulted).foldl pick none = none) ↔ _) ∧
    ∀ e, (l.filter fun v => !v.faulted).foldl pick none = some e → _
  generalize hm : (l.filter fun v => !v.faulted) = m at mem
  cases m with
  | nil => exact ⟨⟨fun _ v hv hf => by simpa using (mem v).mpr ⟨hv, hf⟩, fun _ => rfl⟩, nofun⟩
  | cons b m =>
    obtain ⟨e, h1, h2, h3, h4⟩ := key m b
    have he : (b :: m).foldl pick none = some e := h1
    have hin := (mem e).mp (List.mem_cons.mpr h2)
    refine ⟨⟨fun h => (by rw [he] at h; cases h), fun h => absurd hin.2 (h e hin.1)⟩, fun e' h' => ?_⟩
    rw [he] at h'; cases h'
    refine ⟨hin.1, hin.2, fun v hv hf => ?_⟩
    obtain rfl | hv := List.mem_cons.mp ((mem v).mpr ⟨hv, hf⟩)
    · exact h3
    · exact h4 v hv

/-- An entry of a number the list does not hold joins it. -/
theorem insertVehicle_perm {v : Vehicle} {l : List Vehicle} (h : ∀ w ∈ l, w.number ≠ v.number) :
    (insertVehicle v l).Perm (v :: l) := by
  induction l with
  | nil => exact .refl _
  | cons w rest ih =>
    have hw := h w (by simp)
    unfold insertVehicle
    split
    · exact .refl _
    · rw [if_neg fun e => hw e.symm]
      exact ((ih fun k hk => h k (by simp [hk])).cons w).trans (.swap v w rest)

/-- Everything the obtaining of an entry can do (R110, R111): found, made, or TABLE_FULL raised. -/
theorem obtainVehicle_cases (n : VehicleNumber) :
    ((s.vehicle n).isSome = true → obtainVehicle n s = (s, true)) ∧
    (s.vehicle n = none → (s.vehicles.length < 128 ∨ ∃ v ∈ s.vehicles, faultFree v) →
      ∃ l, entryMade n s l ∧ obtainVehicle n s = (s.setVehicles l, true)) ∧
    (s.vehicle n = none → 128 ≤ s.vehicles.length → (∀ v ∈ s.vehicles, ¬ faultFree v) →
      obtainVehicle n s = (raise (.tableFull n) s, false)) := by
  have free : s.vehicle n = none → ∀ w ∈ s.vehicles, w.number ≠ n := fun h w hw => by
    simpa using List.find?_eq_none.mp h w hw
  refine ⟨fun h => by simp [obtainVehicle, h], fun h hm => ?_, fun h h1 h2 => ?_⟩
  · by_cases hl : s.vehicles.length < 128
    · exact ⟨insertVehicle (Vehicle.starting n) s.vehicles, ⟨fun _ => insertVehicle_perm (free h), fun hk => by omega⟩,
        by simp [obtainVehicle, h, Config.vehicleCapacity, hl]⟩
    · obtain ⟨w, hw, hf⟩ := hm.resolve_left hl
      obtain ⟨he1, he2⟩ := evictee_spec s.vehicles
      cases he : evictee s.vehicles with
      | none => exact absurd hf (he1.mp he w hw)
      | some e =>
        obtain ⟨h1, h2, h3⟩ := he2 e he
        refine ⟨insertVehicle (Vehicle.starting n) (eraseVehicle e.number s.vehicles), ⟨fun hk => absurd hk hl, fun _ =>
          ⟨e, h1, h2, h3, insertVehicle_perm fun w hw => free h w (List.mem_filter.mp hw).1⟩⟩, ?_⟩
        simp [obtainVehicle, h, Config.vehicleCapacity, hl, he]
  · have he := (evictee_spec s.vehicles).1.mpr h2
    simp [obtainVehicle, h, Config.vehicleCapacity, Nat.not_lt.mpr h1, he]

/-- An event that needs an entry, in the form of the statements (`onEntry`). -/
theorem onEntry_obtainVehicle (n : VehicleNumber) (work : State → State) (untracked : State → State) :
    onEntry n s (fun l => work (s.setVehicles l)) untracked
      (if (obtainVehicle n s).2 then work (obtainVehicle n s).1 else untracked (obtainVehicle n s).1) := by
  obtain ⟨h1, h2, h3⟩ := obtainVehicle_cases (s := s) n
  refine ⟨fun h => by rw [h1 h]; rfl, fun h hm => ?_, fun h hl hf => by rw [h3 h hl hf]; rfl⟩
  obtain ⟨l, hl, he⟩ := h2 h hm
  exact ⟨l, hl, by rw [he]; rfl⟩

/-- The table with the entry of `n` heard of and then changed. -/
theorem hearVehicle_editVehicle (n : VehicleNumber) (l : List Vehicle) (g : Vehicle → Vehicle) :
    ((hearVehicle n (s.setVehicles l)).editVehicle n g) = s.setVehicles (heardAs s n g l) := by
  simp only [hearVehicle, State.editVehicle, State.setVehicles, heardAs, List.map_map]
  congr 1
  refine List.map_congr_left fun v _ => ?_
  by_cases h : v.number = n
  · simp [h, Vehicle.heardAt, Vehicle.ageRestarted, ageTimerFor, Timer.startSeconds]
  · simp [h]

/-- Two changes of one entry, the first of which keeps its number, are one. -/
theorem editVehicle_editVehicle (n : VehicleNumber) (g h : Vehicle → Vehicle) (hg : ∀ v, (g v).number = v.number) :
    (s.editVehicle n g).editVehicle n h = s.editVehicle n fun v => h (g v) := by
  simp only [State.editVehicle, State.setVehicles, List.map_map]
  congr 1
  refine List.map_congr_left fun v _ => ?_
  by_cases e : v.number = n <;> simp [e, hg]

/-- A record appended (R117), in the form of the statements. -/
theorem addRecord_eq (c : FaultCode) (p : Place) (now : Time) (v : Vehicle) :
    v.addRecord { code := c, place := p, heard := now } = recorded c p now v := by
  by_cases h : v.faults.length < 4
  · simp [Vehicle.addRecord, recorded, Config.faultCapacity, h, Nat.not_le.mpr h]
  · simp [Vehicle.addRecord, recorded, Config.faultCapacity, h, Nat.not_lt.mp h]

/-- The review of DEWIRE at the frog an entry's DEWIRE held (R87, R121), in the form of the statements. -/
theorem reviewLeft_eq (d : Option (Option FrogIx)) : reviewLeft d s = dewireReviewed d s := by
  match d with
  | none => rfl
  | some none => rfl
  | some (some f) =>
    have hd : s.dewiredAt f = !(s.vehicles.all fun v => decide (v.dewire ≠ some (some f))) := by
      simp [State.dewiredAt, List.not_all_eq_any_not]
    unfold reviewLeft dewireReviewed; dsimp only
    unfold reviewDewire removeBlock
    cases hg : s.frog f with
    | none => rfl
    | some g =>
      dsimp only
      rw [hd]
      cases hu : g.untracked <;> cases hb : g.blocks.dewire <;>
        cases ha : s.vehicles.all (fun v => decide (v.dewire ≠ some (some f))) <;>
        simp only [BlockSet.has, hb, Bool.or_true, Bool.or_false, Bool.not_true, Bool.not_false, Bool.and_true,
          Bool.and_false, Bool.false_eq_true, if_true, if_false] <;> rfl

end Sys2Proof.Machine
end

