-- ==== Sys2Proof/Tests/Slice0.lean ====
section
/-!
SUPPORT. Tests of the model, each a named theorem. First the smoke test of WellFormed.lean, then one-step tests with expected
values from the manual's tables and worked sequences (the section is named at each), then, for every obligation with
hypotheses, a witness that meets them (`witness_<Name>`).
-/

namespace Sys2Proof.Tests

open Sys2Proof Sys2Proof.Machine

set_option Elab.async false

/-! ## WellFormed refuses an ill-formed term for each of its checks -/

theorem test_payload_of_121_refused : (Instr.skateFrame 0 0x2001 0 (List.replicate 121 0)).wellFormed = false := by
  decide
theorem test_payload_of_120_accepted : (Instr.skateFrame 0 0x2001 0 (List.replicate 120 0)).wellFormed = true := by
  decide
theorem test_arguments_of_118_refused : (Instr.status 9 0 0 (List.replicate 118 0)).wellFormed = false := by decide
theorem test_unknown_request_of_118_refused :
    (Instr.unknownRequest 9 0 0 0x7F (List.replicate 118 0)).wellFormed = false := by decide
theorem test_unknown_request_with_a_known_code_refused : (Instr.unknownRequest 9 0 0 0x42 []).wellFormed = false := by
  decide
theorem test_unknown_request_accepted : (Instr.unknownRequest 9 0 0 0x43 []).wellFormed = true := by decide

/-! ## Small states -/

/-- A section's parameters. -/
def params : SectionParams :=
  { feederAddr := 0x0101, testUnit := 0, ic := 1200, iInst := 3000, didtStart := 40, windowMax := 30, deltaBase := 900
    vehAllow := 150, vehCap := 4, hTrip := 1280000, silenceTime := 30, vDead := 400, supplyLossTime := 50, rMin := 50
    recloseMax := 2, recloseDead := 3000, reclaimTime := 60, openTimeout := 200, closeTimeout := 500
    testTimeout := 2000 }

/-- A frog's parameters. -/
def frogParams : FrogParams :=
  { ctrlAddr := 0x0201, powerSection := 0, normalLeg := 0, reverseLeg := 1, dflt := .normal, returns := false
    throwTimeout := 800, exitTimeout := 20001, wMin := 100, wMax := 20000, bounceGap := 50, bounceMax := 2
    skateHold := 2000, drawSense := .reverse }

/-- A section in a state, with this last report. -/
def inState (st : SectionState) (b : Option BreakerState) : Sect :=
  { Sect.starting .supervise 0 params with state := st, lastReport := b }

/-- The part in SUPERVISE at part time 40000, nothing configured. -/
def bare : State :=
  { State.reset with mode := .supervise, partTime := 40000, globals := { Globals.powerOn with centreAddr := 0x0100 } }

/-- Section 0 as given. -/
def one (x : Sect) : State := bare.putSect 0 (some x)

/-- Section 0 as given, holding unit 0. -/
def testing (x : Sect) : State := (one x).putUnit 0 { TestUnit.starting with holder := some 0 }

/-- A frog at NORMAL with nothing queued. -/
def idleFrog : Frog := { Frog.starting frogParams with position := .at .normal }

/-- Frog 0 as given, its power section LIVE, both its legs configured. -/
def frogOf (g : Frog) : State :=
  ((one (inState .live (some .closed))).putSect 1
    (some { inState .live (some .closed) with params := { params with feederAddr := 0x0102 } })).putFrog 0 (some g)

/-- A vehicle last heard at 30000. -/
def vehicle (n : VehicleNumber) : Vehicle :=
  { number := n, located := some 0, lastHeard := 30000, age := 10000, dewire := none, insulation := false, bounce := false
    faults := [], listLost := false, ageTimer := .stopped, clearedAt := none }

/-- A frog's queue entry. -/
def passage (ph : RequestPhase) : Request := { kind := .passage (some 417) 936, target := .reverse, phase := ph }

/-- A SENT order whose ACK timer is due at 40040. -/
def sentOrder (a : LineAddr) (k : OrderKind) : Order := { target := a, kind := k, state := .sent 118 (.running 40040 0 0) }

/-- `n` live NORMAL entries. -/
def normals (n : Nat) : List Order := (List.range n).map fun k =>
  { target := BitVec.ofNat 16 (1000 + k), kind := .test, state := .queued }

/-- The state after a command. -/
def after (c : Instr) (s : State) : State :=
  match exec c s with
  | .next t => t
  | _ => s

/-- A value of section 0 after a command. -/
def sectAfter {α : Type} (c : Instr) (s : State) (view : Sect → α) : Option α := ((after c s).sect 0).map view

/-- A value of frog 0 after a command. -/
def frogAfter {α : Type} (c : Instr) (s : State) (view : Frog → α) : Option α := ((after c s).frog 0).map view

/-- The test units in order, as a check. -/
def unitsInOrder (s : State) : Bool :=
  (List.finRange 12).all fun u =>
    ((List.finRange 48).all fun i =>
      let is := fun sub => match s.sect i with
        | some x => decide (x.state = .energizing sub) && decide (x.params.testUnit = u)
        | none => false
      (decide ((s.unit u).holder = some i) == is .testing) && (decide (i ∈ (s.unit u).waiting) == is .testWait))
    && (decide ((s.unit u).holder ≠ none) || (s.unit u).waiting.isEmpty)

theorem inTestState_of_check (s : State) (i : SectionIx) (sub : Substate) (u : UnitIx) :
    (match s.sect i with
      | some x => decide (x.state = .energizing sub) && decide (x.params.testUnit = u)
      | none => false) = true ↔ inTestState s i sub u := by
  unfold inTestState
  cases s.sect i <;> simp

theorem units_of (s : State) (h : unitsInOrder s = true) : UnitsOk s := by
  intro _ u
  have hu := List.all_eq_true.mp h u (List.mem_finRange u)
  simp only [Bool.and_eq_true, List.all_eq_true, beq_iff_eq] at hu
  refine ⟨fun i => ?_, fun i => ?_, fun hn => ?_⟩
  · rw [← inTestState_of_check, ← (hu.1 i (List.mem_finRange i)).1]; simp
  · rw [← inTestState_of_check, ← (hu.1 i (List.mem_finRange i)).2]; simp
  · simpa [hn] using hu.2

/-! ## Operands -/

/-- spec/08 section 8.1 and R142: the check value of this CRC over the nine digits, from outside the manual, is 0x29B1. -/
theorem test_check_of_nine_digits : crc [0x31, 0x32, 0x33, 0x34, 0x35, 0x36, 0x37, 0x38, 0x39] = 0x29B1 := by
  decide +kernel

/-- spec/00 section 4.5: vehicle 0412 is the bytes 0x04 0x12, and a digit above 9 is malformed. -/
theorem test_vehicle_number : bcdNumber 0x04 0x12 = some 412 ∧ bcdNumber 0x04 0x1A = none := by decide +kernel

/-- spec/01, R14's table, at IC 1200. -/
theorem test_thermal_table : thermalStep 1200 2000 = 2560 ∧ thermalStep 1200 1199 = -2 ∧ thermalStep 1200 8000 = 62560 := by
  decide +kernel

/-! ## Feeder samples (spec/01) -/

/-- A SAMPLE payload of these currents, in A, at 600 V. -/
def samples (l : List Nat) : List Byte := l.flatMap fun i => be16 i ++ be16 600

/-- A LIVE section whose record expects `q`. -/
def expecting (q : Byte) (p : Protection) : Sect :=
  { inState .live (some .closed) with prot := { p with expectedSeq := q, synced := true } }

/-- Section 1.3.1: SEQ 21 where 19 is expected is two missing frames, 22 is expected next; 16 fill steps at 0 A keep H at 0. -/
theorem test_sample_gap_of_two :
    sectAfter (.sampleFrame 0 0x0101 21 (samples (List.replicate 8 100))) (one (expecting 19 Protection.starting))
      (fun x => (x.prot.expectedSeq, x.prot.iLast, x.prot.h, x.state)) = some (22, 100, 0, .live) := by decide +kernel

/-- Section 1.3.1: SEQ 20 where 22 is expected is stale and leaves the record as it was. -/
theorem test_sample_stale :
    sectAfter (.sampleFrame 0 0x0101 20 (samples (List.replicate 8 2000))) (one (expecting 22 Protection.starting))
      (fun x => x.prot) = some (expecting 22 Protection.starting).prot := by decide +kernel

/-- Section 1.5.1: frame B trips at its seventh sample with reason DELTA (three vehicles, T = 1350). -/
theorem test_sample_delta_trip :
    sectAfter (.sampleFrame 0 0x0101 7 (samples [1210, 1340, 1470, 1600, 1730, 1860, 1990, 2050]))
      (one (expecting 7 { Protection.starting with
        iPrev := 1080, iLast := 1080, window := some { base := 620, count := 4, threshold := 1350 } }))
      (fun x => (x.state, x.tripReason, x.prot.iPrev, x.timer))
      = some (.tripping, some .delta, 2050, .running 40200 0 0) := by
  delta sectAfter; delta after; delta exec; delta execSampleFrame; delta arriveFrame; delta receiveFrame; delta process; delta processField; delta takeSamples; delta acceptFrame; delta takeSample; delta tripIf; delta trip; delta enterState
  generalize Config.grantBeforeHeads = b
  cases b <;> decide +kernel

/-- Section 1.6.1: frame 63 of 2000 A trips at its fourth sample and leaves H at 1,290,240. -/
theorem test_sample_thermal_trip :
    sectAfter (.sampleFrame 0 0x0101 7 (samples (List.replicate 8 2000)))
      (one (expecting 7 { Protection.starting with iPrev := 2000, iLast := 2000, h := 1269760 }))
      (fun x => (x.state, x.tripReason, x.prot.h)) = some (.tripping, some .thermal, 1290240) := by
  delta sectAfter; delta after; delta exec; delta execSampleFrame; delta arriveFrame; delta receiveFrame; delta process; delta processField; delta takeSamples; delta acceptFrame; delta takeSample; delta tripIf; delta trip; delta enterState
  generalize Config.grantBeforeHeads = b
  cases b <;> decide +kernel

/-- Section 1.3.1: the silence expiry sets BLIND and leaves the sequence unsynchronised, expecting 91 still. -/
theorem test_silence_expiry :
    sectAfter (.silenceTimerExpiry 0)
      (one (expecting 91 { Protection.starting with silence := .running 40000 0 0 }))
      (fun x => (x.prot.blind, x.prot.synced, x.prot.expectedSeq)) = some (true, false, 91) := by decide +kernel

/-! ## Sections and test units (spec/02, spec/03) -/

/-- Section 2.11, 40,070: BREAKER OPEN in TRIPPING is DEAD_WAIT for 3000 ms. -/
theorem test_breaker_open_in_tripping :
    sectAfter (.breakerReport 0 0x0101 0 [0x00])
      { one { inState .tripping (some .closed) with tripReason := some .delta } with partTime := 40070 }
      (fun x => (x.state, x.timer, x.lastReport)) = some (.deadWait, .running 43070 0 0, some .opened) := by
  delta sectAfter; delta after; delta exec; delta execBreakerReport; delta arriveFrame; delta receiveFrame; delta process; delta processField; delta takeBreaker; delta reportOpen; delta openedToWait; delta enterState
  generalize Config.grantBeforeHeads = b
  cases b <;> decide +kernel

/-- Section 2.11, 43,070: the expiry goes through COOLING and TEST_WAIT to TESTING, attempt 1, origin AUTO. -/
theorem test_dead_wait_expiry :
    sectAfter (.deadWaitExpiry 0)
      { one { inState .deadWait (some .opened) with timer := .running 43070 0 0 } with partTime := 43070 }
      (fun x => (x.state, x.attempts, x.origin, x.timer))
      = some (.energizing .testing, 1, some .auto, .running 45070 0 0) := by
  delta sectAfter; delta after; delta exec; delta execDeadWaitExpiry; delta deadWaitExpires; delta lockOut; delta enterState
  generalize Config.grantBeforeHeads = b
  cases b <;> decide +kernel

/-- Section 2.11, 43,460: resistance 12 below 50 on attempt 1 of 2 is a new dead wait. -/
theorem test_result_fails_first_attempt :
    sectAfter (.testResultFrame 0 0x0101 0 [0x00, 12])
      { testing { inState (.energizing .testing) (some .opened) with attempts := 1, origin := some .auto } with
        partTime := 43460 }
      (fun x => (x.state, x.attempts, x.timer)) = some (.deadWait, 1, .running 46460 0 0) := by
  delta sectAfter; delta after; delta exec; delta execTestResultFrame; delta arriveFrame; delta receiveFrame; delta process; delta processField; delta takeResult; delta failAttempt; delta enterState
  generalize Config.grantBeforeHeads = b
  cases b <;> decide +kernel

/-- Section 2.11, 46,830: the failure of attempt 2 of 2 locks out with EXHAUSTED. -/
theorem test_result_fails_last_attempt :
    sectAfter (.testResultFrame 0 0x0101 0 [0x00, 12])
      (testing { inState (.energizing .testing) (some .opened) with attempts := 2, origin := some .auto })
      (fun x => (x.state, x.lockReason, x.timer)) = some (.lockedOut, some .exhausted, .stopped) := by
  delta sectAfter; delta after; delta exec; delta execTestResultFrame; delta arriveFrame; delta receiveFrame; delta process; delta processField; delta takeResult; delta failAttempt; delta lockOut; delta enterState
  generalize Config.grantBeforeHeads = b
  cases b <;> decide +kernel

/-- Section 2.12: OPEN_TIMEOUT in TRIPPING locks out with BREAKER_FAIL, the isolate-on-open flag cleared. -/
theorem test_open_timeout :
    sectAfter (.openTimeoutExpiry 0)
      (one { inState .tripping none with isolateOnOpen := true, timer := .running 40000 0 0 })
      (fun x => (x.state, x.lockReason, x.isolateOnOpen)) = some (.lockedOut, some .breakerFail, false) := by
  delta sectAfter; delta after; delta exec; delta execOpenTimeoutExpiry; delta openExpiry; delta lockOut; delta enterState
  generalize Config.grantBeforeHeads = b
  cases b <;> decide +kernel

/-- R43 and R45: CLOSE_TIMEOUT fails a dispatcher's attempt with CLOSE_FAIL. -/
theorem test_close_timeout :
    sectAfter (.closeTimeoutExpiry 0)
      (one { inState (.energizing .closing) none with origin := some .dispatch, timer := .running 40000 0 0 })
      (fun x => (x.state, x.lockReason)) = some (.lockedOut, some .closeFail) := by
  delta sectAfter; delta after; delta exec; delta execCloseTimeoutExpiry; delta closeExpiry; delta failAttempt; delta lockOut; delta enterState
  generalize Config.grantBeforeHeads = b
  cases b <;> decide +kernel

/-- Section 3.6, 12,900: TEST_TIMEOUT leaves last test TIMEOUT and fails the AUTO attempt into DEAD_WAIT. -/
theorem test_test_timeout :
    let t := after (.testTimeoutExpiry 0) (testing { inState (.energizing .testing) none with
      origin := some .auto, attempts := 1, timer := .running 40000 0 0 })
    (t.sect 0).map Sect.state = some .deadWait ∧ (t.unit 0).lastTest = some (0, .timeout) := by
  delta after; delta exec; delta execTestTimeoutExpiry; delta testExpiry; delta failAttempt; delta enterState
  generalize Config.grantBeforeHeads = b
  cases b <;> decide +kernel

/-- Section 3.6, 10,900: unit released by section 17 goes to section 30, not 4, from pointer 18; the pointer becomes 31. -/
theorem test_unit_rotation :
    let named := fun (a : LineAddr) (st : SectionState) =>
      some { inState st (some .opened) with params := { params with feederAddr := a }, origin := some .auto, attempts := 1 }
    let s := (((bare.putSect 17 (named 0x0111 (.energizing .testing))).putSect 4 (named 0x0104 (.energizing .testWait))).putSect
      30 (named 0x011E (.energizing .testWait))).putUnit 0
        { holder := some 17, waiting := [4, 30], pointer := 18, lastTest := none }
    let t := after (.testResultFrame 0 0x0111 0 [0x00, 140]) s
    t.unit 0 = { holder := some 30, waiting := [4], pointer := 31, lastTest := some (17, .pass 140) } ∧
    (t.sect 30).map Sect.state = some (.energizing .testing) := by
  delta after; delta exec; delta execTestResultFrame; delta arriveFrame; delta receiveFrame; delta process; delta processField; delta takeResult; delta enterState
  generalize Config.grantBeforeHeads = b
  cases b <;> decide +kernel

/-- Section 2.13, 82,000: an intercepted CLOSE in DEAD_WAIT with a leaking vehicle locks out with DISPATCH_FAIL. -/
theorem test_close_order_past_a_leak :
    sectAfter (.orderInterceptSection 0x0101 0x0100 0 [0x03])
      ((one (inState .deadWait (some .opened))).setVehicles [{ vehicle 412 with insulation := true }])
      (fun x => (x.state, x.lockReason)) = some (.lockedOut, some .dispatchFail) := by
  delta sectAfter; delta after; delta exec; delta execOrderInterceptSection; delta arriveFrame; delta receiveFrame; delta intercept; delta interceptSection; delta energizeRequest; delta lockOut; delta enterState
  generalize Config.grantBeforeHeads = b
  cases b <;> decide +kernel

/-- Section 2.12, step 3: an intercepted OPEN in TRIPPING is remembered. -/
theorem test_open_order_in_tripping :
    sectAfter (.orderInterceptSection 0x0101 0x0100 0 [0x01]) (one (inState .tripping (some .closed)))
      (fun x => (x.state, x.isolateOnOpen)) = some (.tripping, true) := by decide +kernel

/-- R48: the reclaim expiry returns the attempt count to 0. -/
theorem test_reclaim_expiry :
    sectAfter (.reclaimExpiry 0) (one { inState .live (some .closed) with attempts := 2, timer := .running 39999 0 1000 })
      (fun x => (x.attempts, x.timer)) = some (0, .stopped) := by decide +kernel

/-- R27 and spec/00 section 4.2: each second's period starts at the end of the one before it. -/
theorem test_reclaim_period :
    sectAfter (.reclaimPeriodEnd 0) (one { inState .live (some .closed) with timer := .running 39999 58 1000 })
      (fun x => x.timer) = some (.running 40999 57 1000) := by decide +kernel

/-! ## Skates and frogs (spec/04, spec/05) -/

/-- Section 4.10, 70,030: the contact opens, draw start 65,120, tag 0417, D 0. -/
theorem test_skate_opens_contact :
    frogAfter (.skateFrame 0 0x0201 0 ([3] ++ [1] ++ be16 65000 ++ [0, 0] ++ [3] ++ be16 65120 ++ [0, 0]
        ++ [7] ++ be16 65200 ++ [0x04, 0x17])) (frogOf idleFrog)
      (fun g => (g.capture.phase, g.capture.drawStart, g.capture.tag, g.capture.hold))
      = some (.contact, .at 65120, some 417, .running 42000 0 0) := by decide +kernel

/-- Section 4.10, 70,060: a fall and a merged rise in one frame: D 280, bounce 1, draw start 65,430, SETTLE stopped. -/
theorem test_skate_merges_bounce :
    frogAfter (.skateFrame 0 0x0201 0 ([2] ++ [2] ++ be16 65400 ++ [0, 0] ++ [1] ++ be16 65430 ++ [0, 0]))
      (frogOf { idleFrog with capture := { Capture.starting with
        phase := .contact, riseTick := 65000, drawHigh := true, drawStart := .at 65120, tag := some 417 } })
      (fun g => (g.capture.phase, g.capture.drawTotal, g.capture.bounces, g.capture.drawStart, g.capture.settle))
      = some (.contact, 280, 1, .at 65430, .stopped) := by decide +kernel

/-- Section 4.10, 70,120: the conclusion record, and the passage that the idle frog throws for. -/
theorem test_settle_concludes_passage :
    frogAfter (.settleExpiry 0)
      (frogOf { idleFrog with capture := { Capture.starting with
        phase := .settling, riseTick := 65000, fallTick := 400, drawTotal := 626, bounces := 1, tag := some 417
        settle := .running 40000 0 0 } })
      (fun g => (g.capture.last, g.queue, g.position))
      = some (some { judgement := .passage false .reverse, width := 936, drawTotal := 626, bounces := 1, tag := some 417 },
        [passage .throwing], .moving .reverse) := by decide +kernel

/-- Section 4.11, 93,000: SKATE_HOLD sets the stall flag and blocks the frog with STALL. -/
theorem test_skate_hold_expiry :
    frogAfter (.skateHoldExpiry 0)
      (frogOf { idleFrog with capture := { Capture.starting with phase := .contact, hold := .running 40000 0 0 } })
      (fun g => (g.capture.phase, g.capture.stall, g.blocks.stall)) = some (.contact, true, true) := by decide +kernel

/-- Section 5.12, 300,540: POSITION REVERSE sets the head; EXIT_TIMEOUT 20,001 runs in two periods. -/
theorem test_position_sets_head :
    frogAfter (.positionReport 0 0x0201 0 [0x01])
      (frogOf { idleFrog with position := .moving .reverse, queue := [passage .throwing], throwTimer := .running 40500 0 0 })
      (fun g => (g.position, g.queue, g.throwTimer, g.exitTimer))
      = some (.at .reverse, [passage .set], .stopped, .running 50000 1 10001) := by decide +kernel

/-- Section 5.12, 303,900: the exit completes the passage, and the next one throws the frog back. -/
theorem test_exit_completes_passage :
    frogAfter (.skateFrame 0 0x0201 0 ([1] ++ [6] ++ be16 9 ++ [0, 0]))
      (frogOf { idleFrog with position := .at .reverse
                              queue := [passage .set, { kind := .passage (some 233) 700, target := .normal, phase := .waiting }] })
      (fun g => (g.position, g.queue))
      = some (.moving .normal, [{ kind := .passage (some 233) 700, target := .normal, phase := .throwing }]) := by decide +kernel

/-- Section 5.12, 304,700: the throw timer leaves position UNKNOWN, the head WAITING and POSITION in the block set. -/
theorem test_throw_timer_expiry :
    frogAfter (.throwTimerExpiry 0)
      (frogOf { idleFrog with position := .moving .reverse, queue := [passage .throwing], throwTimer := .running 40000 0 0 })
      (fun g => (g.position, g.queue, g.blocks.position)) = some (.unknown, [passage .waiting], true) := by decide +kernel

/-- Section 5.12, 305,000: a dispatcher throw joins behind a head. -/
theorem test_dispatcher_throw_joins :
    frogAfter (.orderInterceptFrog 0x0201 0x0100 0 [0x05])
      (frogOf { idleFrog with position := .unknown, queue := [passage .waiting], blocks := { BlockSet.empty with position := true } })
      (fun g => g.queue) = some [passage .waiting, { kind := .dispatch, target := .normal, phase := .waiting }] := by
  decide +kernel

/-- R83: the second period of EXIT_TIMEOUT 20,001 is 10,001 ms long. -/
theorem test_exit_first_period :
    frogAfter (.exitTimerFirstPeriodEnd 0)
      (frogOf { idleFrog with queue := [passage .set], exitTimer := .running 40000 1 10001 }) (fun g => g.exitTimer)
      = some (.running 50001 0 10001) := by decide +kernel

/-- R102: the exit timer takes the passage out of the queue and adds EXIT. -/
theorem test_exit_timer_expiry :
    frogAfter (.exitTimerExpiry 0)
      (frogOf { idleFrog with queue := [passage .set], exitTimer := .running 40000 0 10001 })
      (fun g => (g.queue, g.blocks.exit, g.exitTimer)) = some ([], true, .stopped) := by decide +kernel

/-! ## Vehicles and orders (spec/06, spec/07) -/

/-- Section 6.11, 420,000: with four records held the oldest goes and LIST_LOST is set; frog 0 has DEWIRE. -/
theorem test_dewire_report :
    let r := fun (t : Time) => ({ code := .dewire, place := .nowhere, heard := t } : FaultRecord)
    let t := after (.vehicleFrame 0 9 0 [0x04, 0x17, 0x02, 0x00, 0x00, 0x01])
      ((frogOf idleFrog).setVehicles [{ vehicle 417 with faults := [r 10, r 20, r 30, r 40] }])
    ((t.vehicle 417).map fun v => (v.dewire, v.faults.map FaultRecord.heard, v.listLost))
      = some (some (some 0), [20, 30, 40, 40000], true) ∧
    (t.frog 0).map (fun g => g.blocks.dewire) = some true := by decide +kernel

/-- Section 6.11, 400,000: a LOCATE makes an entry. -/
theorem test_locate_report :
    ((after (.vehicleFrame 0 9 0 [0x04, 0x17, 0x01, 0x00, 0xFF, 0x01]) (frogOf idleFrog)).vehicle 417).map
      (fun v => (v.located, v.lastHeard, v.faults)) = some (some 0, 40000, []) := by decide +kernel

/-- R122 and log entry 28: a CLEAR_BLOCK that takes the last fault leaves the age timer and keeps its part time. -/
theorem test_clear_block_takes_last_fault :
    let v := { vehicle 417 with dewire := some (some 0), ageTimer := .running 40009 0 1000 }
    ((after (.clearBlock 9 0 1 [0x00, 0x01]) ((frogOf idleFrog).setVehicles [v])).vehicle 417).map
      (fun v => (v.dewire, v.clearedAt, v.ageTimer)) = some (none, some 40000, .running 40009 0 1000) := by decide +kernel

/-- R123 and log entry 28: the expiry less than VEH_AGE after that removes the entry or keeps it, by the free value. -/
theorem test_age_after_clear_block :
    let v := { vehicle 1 with ageTimer := .running 40000 0 1000, clearedAt := some 39000 }
    let s := (bare.setVehicles [v]).setGlobals { bare.globals with vehAge := 20 }
    (after (.ageTimerExpiry 1) s).vehicles.map Vehicle.ageTimer
      = if Config.clearedAgesOut then [] else [.running 41000 19 1000] := by
  delta after; delta exec; delta execAgeTimerExpiry; delta ageExpiry; delta Vehicle.outlives
  generalize Config.clearedAgesOut = b
  cases b <;> decide +kernel

/-- R123: an age timer's expiry removes a fault-free entry and keeps a faulted one. -/
theorem test_age_timer_expiry :
    let s := bare.setVehicles [{ vehicle 1 with ageTimer := .running 40000 0 1000 }
      , { vehicle 2 with ageTimer := .running 40000 0 1000, bounce := true }]
    (after (.ageTimerExpiry 1) s).vehicles.map Vehicle.number = [2] ∧
    (after (.ageTimerExpiry 2) s).vehicles.map Vehicle.number = [1, 2] := by decide +kernel

/-- R123: each second's period of an age timer starts at the end of the one before it. -/
theorem test_age_timer_period :
    ((after (.ageTimerPeriodEnd 1) (bare.setVehicles [{ vehicle 1 with ageTimer := .running 39998 9 1000 }])).vehicle 1).map
      Vehicle.ageTimer = some (.running 40998 8 1000) := by decide +kernel

/-- Section 7.7, 500,045: the TRIP's ACK with SEQ 118 frees its entry; SEQ 117 does not. -/
theorem test_ack_frame :
    let s := (one (inState .tripping none)).setOrders [sentOrder 0x0101 .trip]
    (after (.ackFrame 0 0x0101 0 [118, 0x00]) s).orders = [] ∧
    (after (.ackFrame 0 0x0101 0 [117, 0x00]) s).orders = [sentOrder 0x0101 .trip] := by decide +kernel

/-- Section 7.7, 500,061: the ACK timer of a TEST fails the attempt. -/
theorem test_ack_timer_expiry :
    let t := after (.ackTimerExpiry 0x0101)
      { (testing { inState (.energizing .testing) none with origin := some .auto, attempts := 1 }) with
        orders := [sentOrder 0x0101 .test], partTime := 40040 }
    t.orders = [] ∧ (t.sect 0).map Sect.state = some .deadWait ∧ (t.unit 0).lastTest = some (0, .orderFail) := by
  delta after; delta exec; delta execAckTimerExpiry; delta ackExpiry; delta endOrder; delta tellOwner; delta sectionEnding; delta failAttempt; delta enterState
  generalize Config.grantBeforeHeads = b
  cases b <;> decide +kernel

/-- Section 7.7, 500,000 and 500,020: with 28 live a NORMAL order is refused for room and a TRIP is taken. -/
theorem test_reserve :
    let l := (List.range 28).map fun k => ({ target := BitVec.ofNat 16 (1000 + k), kind := .test, state := .queued } : Order)
    (register l 0x0201 .throwReverse).2 = .noRoom ∧ (register l 0x0101 .trip).2 = .taken ∧
    ((register l 0x0101 .trip).1).length = 29 := by decide +kernel

/-! ## Ports, requests, resets (spec/08 to spec/11) -/

/-- R152: the urgent order goes before an older normal one. -/
theorem test_field_frame_start :
    ((after .fieldFrameStart ((one (inState .tripping none)).setOrders
      [{ target := 0x0300, kind := .test, state := .queued }, { target := 0x0101, kind := .trip, state := .queued }])).orders.map
        fun e => (e.target, e.state)) = [(0x0300, .queued), (0x0101, .sent 0 (.running 40040 0 0))] := by decide +kernel

/-- Section 8.7.1, frame start 1: the reply goes first and moves to the end of the rotation order. -/
theorem test_uplink_frame_start :
    let t := after .uplinkFrameStart { bare with
      globals := { bare.globals with arbUplink := .rotating }
      replies := [{ dest := 0x0100, code := 0x01, tag := 1, result := .ok, data := [] }]
      notices := [{ dest := 0x0100, body := .tableFull 7 }] }
    t.replies = [] ∧ t.notices.length = 1 ∧ t.uplink.rotation = [.notice, .forward, .reply] ∧ t.uplink.seq = 1 := by
  decide +kernel

/-- Section 8.9.1: a frame with one byte corrupted sets CHECK_ERR on FIELD and is not forwarded. -/
theorem test_corrupted_frame :
    let t := after (.frameArrival .field ((makeFrame 1 0x0101 0x11 0 (samples (List.replicate 8 0))).bytes.set 9 0x55))
      (one (inState .live (some .closed)))
    t.field.checkErr = true ∧ t.uplink.forward = [] := by decide +kernel

/-- R149: a frame of a kind the part does not process, with no matching rule, is forwarded. -/
theorem test_frame_forwarded :
    (after (.frameArrival .uplink (makeFrame 1 5 0x99 0 [7]).bytes) bare).field.forward = [makeFrame 1 5 0x99 0 [7]] := by
  decide +kernel

/-- The results in the reply queue after a request. -/
def results (c : Instr) (s : State) : List ResultCode := (after c s).replies.map Reply.result

/-- Section 10.8: READ_FROG 70 is RANGE, a LOAD_FILTER and a READ_SECTION are OK, a request at four replies is discarded. -/
theorem test_requests :
    results (.readFrog 9 0 4 [70]) bare = [.range] ∧
    results (.readSection 9 0 2 [0]) (one (inState .live (some .closed))) = [.ok] ∧
    results (.loadFilter 9 0 3 [3, 1, 1, 0x00, 0x11, 0x04, 0x00, 0x04, 0xFF, 1]) bare = [.ok] ∧
    results (.unknownRequest 9 0 0 0x7F []) bare = [.unknownRequest] ∧
    after (.unloadSection 9 0 5 [9]) { bare with replies := List.replicate 4 ⟨9, 1, 1, .ok, []⟩ }
      = { bare with replies := List.replicate 4 ⟨9, 1, 1, .ok, []⟩ } := by decide +kernel

/-- Section 10.8: an UNLOAD_SECTION of a section that a frog names is refused with STATE. -/
theorem test_unload_guard :
    results (.unloadSection 9 0 6 [1]) ((frogOf idleFrog).putSect 1 (some { inState .unknown none with
      params := { params with feederAddr := 0x0102 } })) = [.state] := by decide +kernel

/-- R164: the status block has 23 bytes; its first is the mode, its seventh the entries of the order list. -/
theorem test_status :
    (after (.status 9 0 1 []) (bare.setOrders [sentOrder 0x0300 .test])).replies.map (fun r => (r.data.length, r.data.take 8))
      = [(23, [0x01, 0x01, 0x00, 0x00, 0x00, 0x00, 0x01, 0x00])] := by decide +kernel

/-- R165: SET_MODE BYPASS leaves its reply alone in the queue; R167: a loaded section is UNKNOWN. -/
theorem test_set_mode_and_load :
    (after (.setMode 9 0 1 [0]) { bare with replies := [⟨9, 1, 1, .ok, []⟩] }).replies = [⟨9, 2, 1, .ok, []⟩] ∧
    sectAfter (.loadSection 9 0 1 (0 :: params.bytes)) bare (fun x => (x.params, x.state)) = some (params, .unknown) := by
  decide +kernel

/-- R169, R171: a loaded frog is in UNKNOWN with an empty queue; R104: FLUSH_FROG empties the waiting queue. -/
theorem test_load_and_flush_frog :
    let s := (frogOf idleFrog).putFrog 0 none
    frogAfter (.loadFrog 9 0 1 (0 :: frogParams.bytes)) s (fun g => (g.params, g.position, g.queue))
      = some (frogParams, .unknown, []) ∧
    frogAfter (.flushFrog 9 0 1 [0]) (frogOf { idleFrog with queue := [passage .waiting, passage .waiting] }) (fun g => g.queue)
      = some [] := by decide +kernel

/-- Section 6.11, 426,000: POP_FAULT gives the oldest record with LIST_LOST set, and clears LIST_LOST. -/
theorem test_pop_fault :
    let t := after (.popFault 9 0 1 [0x04, 0x17]) (bare.setVehicles [{ vehicle 417 with
      faults := [{ code := .dewire, place := .nowhere, heard := 410500 }], listLost := true }])
    t.replies.map (fun r => r.data.drop 3) = [be32 410500 ++ [0x01]] ∧
    (t.vehicle 417).map (fun v => (v.faults, v.listLost)) = some ([], false) := by decide +kernel

/-- Section 11.4: a RESTART gives no reply and closes the relay for 5 ms; an ACK in the hold crosses it unseen. -/
theorem test_restart :
    let t := after (.restart 9 0 1 []) ((one (inState .tripping none)).setOrders [sentOrder 0x0101 .trip])
    t.activity = .holding 5 ∧ t.cause = .restart ∧ t.replies = [] ∧ t.configKept = true ∧
    (after (.frameArrival .field [1, 2, 3]) t).uplink.line = [1, 2, 3] := by decide +kernel

/-- Section 11.4: at the end of the hold with AUTORUN high the section is UNKNOWN, the orders are gone, START is queued. -/
theorem test_hold_end :
    let s := { (one (inState .tripping none)) with activity := .holding 0, configKept := true, cause := .restart }
    let t := after (.startUpHoldEnd 0x05 true) s
    (t.sect 0).map Sect.state = some .unknown ∧ t.mode = .supervise ∧ t.ownAddr = 0x7F05 ∧ t.partTime = 0 ∧
    t.notices = [{ dest := 0x0100, body := .start .restart .supervise }] := by decide +kernel

/-- R174's table: the hold after a supply dip is 100 ms, after RESET_PIN 5 ms. -/
theorem test_hold_lengths :
    (after .resetEnd (after .supplyDipReset bare)).activity = .holding 100 ∧
    (after .resetEnd (after .resetPin bare)).activity = .holding 5 := by decide +kernel

/-! ## Witnesses: states and operands that meet the hypotheses of the statements -/

/-- Section 0 of `s` is `x`, `s` is in SUPERVISE and its units are in order. -/
def meets (s : State) (x : Sect) : Bool :=
  decide (s.activity = .running) && decide (s.mode = .supervise) && unitsInOrder s
    && decide (s.sectAt x.params.feederAddr = some 0) && decide (s.sect 0 = some x) && decide (x.params.feederAddr ≠ 0x0000)

/-- The hypotheses that the statements about a section share. -/
theorem meets_of {s : State} {x : Sect} (h : meets s x = true) :
    s.supervising ∧ UnitsOk s ∧ s.sectAt x.params.feederAddr = some 0 ∧ s.sect 0 = some x ∧ x.params.feederAddr ≠ 0x0000 := by
  simp only [meets, Bool.and_eq_true, decide_eq_true_eq] at h
  exact ⟨⟨h.1.1.1.1.1, h.1.1.1.1.2⟩, units_of s h.1.1.1.2, h.1.1.2, h.1.2, h.2⟩

/-- Frog 0 of `s` is `g`, and `s` is in SUPERVISE: the hypotheses that the statements about a frog share. -/
abbrev frogMeets (s : State) (g : Frog) : Prop :=
  s.activity = .running ∧ s.mode = .supervise ∧ s.sectAt 0x0201 = none ∧ s.frogAt 0x0201 = some 0 ∧ s.frog 0 = some g

theorem witness_StepWithNoCommandIsAMillisecond :
    State.reset.pending = [] ∧ State.reset.activity = .running ∧
    (let r := after .resetPin State.reset; r.pending = [] ∧ r.activity = .resetting) ∧
    (let h := { State.reset with activity := .holding 0 }; h.pending = [] ∧ h.activity = .holding 0) := by decide +kernel

/-- A busy part: a LIVE section, a frog with a head THROWING, a dewired vehicle, an order, a notice, a reply, a forwarded
frame and a waiting command. -/
def busyFrog : Frog :=
  { idleFrog with position := .moving .reverse, queue := [passage .throwing], throwTimer := .running 40500 0 0
                  blocks := { BlockSet.empty with dewire := true } }

def busy : State :=
  { frogOf busyFrog with
    vehicles := [{ vehicle 417 with dewire := some (some 0), faults := [{ code := .dewire, place := .atFrog 0, heard := 5 }] }]
    orders := [sentOrder 0x0201 .throwReverse], notices := [{ dest := 0x0100, body := .tableFull 7 }]
    replies := [⟨9, 1, 1, .ok, []⟩]
    uplink := { State.reset.uplink with forward := [makeFrame 1 5 0x99 0 []] }
    pending := [.breakerReport 0 0x0101 0 [0x01]] }

theorem busy_sect (i : SectionIx) : busy.sect i = if i = 1 then some { inState .live (some .closed) with
    params := { params with feederAddr := 0x0102 } } else if i = 0 then some (inState .live (some .closed)) else none := by
  revert i; decide +kernel

theorem busy_frog (f : FrogIx) : busy.frog f = if f = 0 then some busyFrog else none := by
  revert f; decide +kernel

/-- The hypotheses of OrderListLawIsKept, SectionLawsAreKept, TestUnitLawIsKept, FrogLawsAreKept, AddressLawIsKept,
VehicleLawsAreKept and QueueCapacitiesAreKept. -/
theorem witness_invariants :
    SectionsOk busy ∧ UnitsOk busy ∧ FrogsOk busy ∧ AddressesOk busy ∧ VehiclesOk busy ∧ DewireOk busy ∧ OrdersOk busy ∧
    QueuesOk busy ∧ ∃ t, step busy = .next t := by
  refine ⟨?_, units_of _ (by decide +kernel), ?_, ?_, ?_, ?_, ?_, ?_, ?_⟩
  · intro i x h
    rw [busy_sect] at h
    have hp : x.prot = (inState .live (some .closed)).prot ∧ x.attempts = 0 ∧ x.lastReport = some .closed := by
      split at h
      · cases h; exact ⟨rfl, rfl, rfl⟩
      · split at h
        · cases h; exact ⟨rfl, rfl, rfl⟩
        · cases h
    refine ⟨by rw [hp.1]; decide, by rw [hp.2.1]; exact Nat.zero_le _, fun _ => hp.2.2, by rw [hp.1]; exact ⟨by decide, by decide⟩,
      by rw [hp.1]; exact ⟨by decide, by decide⟩, fun w hw => ?_⟩
    rw [hp.1] at hw; cases hw
  · intro f g h
    rw [busy_frog] at h
    split at h
    · cases h
      exact ⟨by decide, by decide, fun t => by simp [busyFrog, passage], by decide⟩
    · cases h
  · refine ⟨fun i j x y hi hj e => ?_, fun f k g h hf hk _ => ?_, fun i f x g hi hf => ?_, fun f g hf => ?_, fun f g r hf => ?_⟩
    · have := fun (k : SectionIx) (z : Sect) (hz : busy.sect k = some z) =>
        show z.params.feederAddr = (if k = 1 then 0x0102 else 0x0101) ∧ (k = 0 ∨ k = 1) by
          rw [busy_sect] at hz
          split at hz
          · cases hz; simp_all
          · split at hz
            · cases hz; simp_all [inState, Sect.starting, params]
            · cases hz
      obtain ⟨a1, rfl | rfl⟩ := this i x hi <;> obtain ⟨b1, rfl | rfl⟩ := this j y hj <;> simp_all
    · rw [busy_frog] at hf hk
      split at hf <;> split at hk <;> simp_all
    · rw [busy_sect] at hi
      rw [busy_frog] at hf
      split at hf
      · cases hf
        split at hi
        · cases hi; decide
        · split at hi
          · cases hi; decide
          · cases hi
      · cases hf
    · rw [busy_frog] at hf
      split at hf
      · cases hf; decide +kernel
      · cases hf
    · rw [busy_frog] at hf
      split at hf
      · cases hf; cases r <;> decide +kernel
      · cases hf
  · exact ⟨by decide, by decide, by decide, fun _ v hv i hi => by
      simp [busy] at hv; subst hv; simp [vehicle] at hi; subst hi; decide +kernel⟩
  · intro _ v hv f hf
    simp [busy] at hv; subst hv; simp at hf; subst hf
    exact ⟨busyFrog, by rw [busy_frog]; rfl, rfl⟩
  · exact ⟨by decide, by decide, by decide⟩
  · exact ⟨by decide, by decide, by decide, by decide⟩
  · exact ⟨_, rfl⟩

theorem witness_BypassStaysQuiet :
    BypassQuiet { State.reset with pending := [.fieldFrameStart] } ∧
    ∃ t, step { State.reset with pending := [.fieldFrameStart] } = .next t := by
  refine ⟨fun _ _ => ⟨fun i x h => ?_, fun f g h => ?_, rfl, rfl⟩, _, rfl⟩
  · have : ∀ i, State.reset.sect i = none := by decide +kernel
    exact absurd ((this i).symm.trans h) nofun
  · have : ∀ f, State.reset.frog f = none := by decide +kernel
    exact absurd ((this f).symm.trans h) nofun

/-- A section in DEAD_WAIT, due, with vehicle 412 leaking in it. -/
def leaking : State :=
  (one { inState .deadWait (some .opened) with timer := .running 40000 0 0 }).setVehicles
    [{ vehicle 412 with insulation := true }]

theorem witness_NoReclosePastALeak :
    let s := { leaking with pending := [.reclaimExpiry 0] }
    let x := { inState .deadWait (some .opened) with timer := .running 40000 0 0 }
    s.activity = .running ∧ UnitsOk s ∧ s.sect 0 = some x ∧ x.state = .deadWait ∧ 0 < s.leakCount 0 ∧
    ∃ t y, step s = .next t ∧ t.sect 0 = some y :=
  ⟨rfl, units_of _ (by decide +kernel), by decide +kernel, rfl, by decide +kernel, _, _, rfl, rfl⟩

theorem witness_WhatChangesTheMode :
    (let c := Instr.setMode 9 0 1 [1]
     c.wellFormed = true ∧ (after c State.reset).mode ≠ State.reset.mode) ∧
    (let s := { bare with activity := .holding 0 }
     (after (.startUpHoldEnd 0 false) s).mode ≠ s.mode) ∧
    (let c := Instr.frameArrival .uplink (makeFrame bare.ownAddr 9 0x61 0 [0x02, 0, 1, 0x00]).bytes
     c.wellFormed = true ∧ (after c bare).mode ≠ bare.mode) := by decide +kernel

theorem witness_FrameBytesAndReceiveCheckAgree :
    (let f := makeFrame 0xFFFF 0x0101 0x99 255 (List.replicate 120 0xFF)
     f.payload.length ≤ 120 ∧ f.check = crc (frameBody f.dest f.src f.kind f.seq f.payload)) ∧
    (let f := makeFrame 0xFFFF 0x0101 0x99 255 []
     parseFrame f.bytes = some f) :=
  ⟨⟨by simp [makeFrame], by simp only [makeFrame]⟩, by decide +kernel⟩

/-- A section's parameters at the lower and at the upper ends of their ranges. -/
def lowParams : SectionParams :=
  { feederAddr := 0x0001, testUnit := 0, ic := 1, iInst := 500, didtStart := 5, windowMax := 1, deltaBase := 100, vehAllow := 0
    vehCap := 0, hTrip := 1000, silenceTime := 10, vDead := 0, supplyLossTime := 10, rMin := 1, recloseMax := 0
    recloseDead := 100, reclaimTime := 1, openTimeout := 20, closeTimeout := 50, testTimeout := 100 }

def highParams : SectionParams :=
  { feederAddr := 0xFFFE, testUnit := 11, ic := 4000, iInst := 8000, didtStart := 2000, windowMax := 255, deltaBase := 8000
    vehAllow := 1000, vehCap := 15, hTrip := 2000000000, silenceTime := 1000, vDead := 1000, supplyLossTime := 5000
    rMin := 65534, recloseMax := 3, recloseDead := 60000, reclaimTime := 600, openTimeout := 2000, closeTimeout := 5000
    testTimeout := 10000 }

/-- A frog's parameters at the lower and at the upper ends of their ranges. -/
def lowFrog : FrogParams :=
  { frogParams with
    ctrlAddr := 0x0001, throwTimeout := 100, exitTimeout := 1000, wMin := 10, wMax := 100, bounceGap := 1, bounceMax := 0
    skateHold := 100 }

def highFrog : FrogParams :=
  { frogParams with
    ctrlAddr := 0xFFFE, powerSection := 47, throwTimeout := 5000, exitTimeout := 120000, wMin := 5000, wMax := 60000
    bounceGap := 2000, bounceMax := 15, skateHold := 30000 }

/-- The globals at the ends of their ranges. -/
def lowGlobals : Globals :=
  { centreAddr := 0x0000, ackTimeout := 5, arbField := .fixed, arbUplink := .rotating, settle := 1, vehAge := 10 }

def highGlobals : Globals :=
  { centreAddr := 0xFFFE, ackTimeout := 1000, arbField := .rotating, arbUplink := .fixed, settle := 200, vehAge := 3600 }

/-- The ranges that a statement asks of globals. -/
abbrev globalsInRange (g : Globals) : Prop :=
  g.centreAddr.toNat ≤ 0xFFFE ∧ 5 ≤ g.ackTimeout ∧ g.ackTimeout ≤ 1000 ∧ 1 ≤ g.settle ∧ g.settle ≤ 200 ∧
    (g.vehAge = 0 ∨ (10 ≤ g.vehAge ∧ g.vehAge ≤ 3600))

theorem witness_LoadArgumentsReadBack :
    lowParams.inRanges = true ∧ highParams.inRanges = true ∧ lowFrog.inRanges = true ∧ highFrog.inRanges = true ∧
    (∀ r ∈ [{ inUse := true, port := .either, kind := some 0xFF, srcLow := 4, srcHigh := 4, hold := true }
        , ({ inUse := false, port := .field, kind := none, srcLow := 0, srcHigh := 0xFFFF, hold := false } : FilterRule)],
      r.srcLow.toNat ≤ r.srcHigh.toNat) ∧
    globalsInRange lowGlobals ∧ globalsInRange highGlobals ∧ globalsInRange Globals.powerOn := by decide +kernel

theorem witness_BadFrameSetsCheckErr :
    State.reset.activity = .running ∧ (List.replicate 8 (0 : Byte)).length < 9 ∧
    (let b : List Byte := [0, 1, 0, 2, 0x11, 0, 121, 0, 0]; ¬ b.length < 9 ∧ 120 < (b.getD 6 0).toNat) ∧
    (let b : List Byte := [0, 1, 0, 2, 0x11, 0, 0, 0, 0, 0]; b.length ≠ 9 + (b.getD 6 0).toNat) ∧
    (let b : List Byte := [0, 1, 0, 2, 0x11, 0, 0, 0, 0]
     b.length = 9 + (b.getD 6 0).toNat ∧ (b.getD 7 0 ++ b.getD 8 0 : BitVec 16) ≠ crc (b.take 7)) := by decide +kernel

/-- The reset state, or `s`, with `n` frames in the forward queue of FIELD. -/
def queued (n : Nat) (s : State) : State :=
  s.setField { s.field with forward := List.replicate n (makeFrame 1 2 0x99 0 []) }

theorem witness_BypassForwardsUnaltered :
    let f := makeFrame 1 5 0x61 0 [1, 2, 3]
    State.reset.activity = .running ∧ State.reset.mode = .bypass ∧ parseFrame f.bytes = some f ∧
    ¬ (PortId.uplink = .uplink ∧ f.kind = 0x61 ∧ f.dest = State.reset.ownAddr ∧ f.src ≠ 0x0000) ∧
    ((queued 31 State.reset).port (otherPort .uplink)).forward.length < 32 ∧
    32 ≤ ((queued 32 State.reset).port (otherPort .uplink)).forward.length := by decide +kernel

/-- Rule 31 holds frames of kind 0x99 from 0x0004 up. -/
def filtered : State :=
  bare.setFilter (bare.filter.set 31
    { inUse := true, port := .either, kind := some 0x99, srcLow := 4, srcHigh := 0xFFFF, hold := true })

/-- The conditions of FilterDecidesForwarding under which a rule takes a frame in. -/
abbrev accepting (s : State) (p : PortId) (f : Frame) (r : RuleIx) : Prop :=
  (s.filter.get r).inUse = true ∧
  ((s.filter.get r).port = .either ∨ (s.filter.get r).port = .uplink ∧ p = .uplink
    ∨ (s.filter.get r).port = .field ∧ p = .field) ∧
  ((s.filter.get r).kind = none ∨ (s.filter.get r).kind = some f.kind) ∧
  (s.filter.get r).srcLow.toNat ≤ f.src.toNat ∧ f.src.toNat ≤ (s.filter.get r).srcHigh.toNat

theorem witness_FilterDecidesForwarding :
    let f := makeFrame 1 4 0x99 0 []
    let g := makeFrame 1 3 0x99 0 []
    let m := makeFrame bare.ownAddr 0 0x61 0 [1, 0, 1]
    let s := queued 31 filtered
    -- the payload of a frame, the arguments of a request, and a request too short to be one
    (List.replicate 120 (0 : Byte)).length ≤ 120 ∧ (List.replicate 117 (0 : Byte)).length ≤ 117 ∧
    ([1, 0] : List Byte).length < 3 ∧ (4 : LineAddr) ≠ 0x0000 ∧
    -- the filter
    s.activity = .running ∧ s.mode = .supervise ∧ parseFrame f.bytes = some f ∧ parseFrame g.bytes = some g ∧
    -- a MGMT frame to the part on FIELD, from 0x0000
    parseFrame m.bytes = some m ∧ m.kind = 0x61 ∧ m.dest = s.ownAddr ∧
    f.kind ∉ [0x11, 0x12, 0x13, 0x21, 0x22, 0x31, 0x41, 0x51, 0x61] ∧
    (s.port (otherPort .uplink)).forward.length < 32 ∧ 32 ≤ ((queued 32 filtered).port (otherPort .uplink)).forward.length ∧
    (accepting s .uplink f 31 ∧ (s.filter.get 31).hold = true ∧ ∀ k : RuleIx, k < 31 → ¬ accepting s .uplink f k) ∧
    (∀ r : RuleIx, ¬ accepting s .uplink g r) := by decide +kernel

theorem witness_RelayCarriesFramesUnseen :
    (after .resetPin bare).activity ≠ .running ∧ (after .resetEnd (after .resetPin bare)).activity ≠ .running := by
  decide +kernel

theorem witness_ThermalStepOfACurrent :
    (1 ≤ 4000 ∧ 4000 ≤ 4000 ∧ CurrentOk (-8000) ∧ CurrentOk 8000 ∧ CurrentOk 0) ∧
    (one (inState .live none)).sect 0 = some (inState .live none) ∧ (inState .live none).params.ic = 1200 ∧
    max (-8000) (min 8000 (-32768 : Int)) = -8000 ∧ (inState .live none).prot.iLast = 0 := by
  exact ⟨⟨by decide, by decide, ⟨by decide, by decide⟩, ⟨by decide, by decide⟩, ⟨by decide, by decide⟩⟩,
    by decide +kernel, rfl, by decide, rfl⟩

/-- A synchronised section in a state, with a record that expects SEQ 3. -/
def resting (st : SectionState) (p : Protection) : Sect :=
  { inState st (some .closed) with prot := { p with expectedSeq := 3, synced := true } }

/-- What the two checks after the samples find in section 0, after eight samples of 0 A at `v` volts. -/
def sampled (y : Sect) (v : Nat) : Option (SectionState × Option Time × Bool × Nat) :=
  (((List.replicate 8 ⟨0, v⟩).foldl (takeSample 0) (one y)).sect 0).map fun z =>
    (z.state, z.prot.lowRun, z.prot.supplyLost, z.prot.h)

theorem witness_SampleFrameBySequence :
    (let x := expecting 3 Protection.starting
     meets (one x) x = true ∧ (samples (List.replicate 8 0)).length = 32 ∧ x.prot.synced = true ∧
     -- SEQ 3, 4 to 6, 7 to 130 and 131
     (∀ q ∈ [(3 : Byte), 4, 6, 7, 130, 131], (q - x.prot.expectedSeq).toNat ∈ [0, 1, 3, 4, 127, 128])) ∧
    (let y := inState .live none; meets (one y) y = true ∧ y.prot.synced = false) ∧
    -- the supply-loss evaluation: runs of 49 and of 50 ms below V_DEAD, SUPPLY_LOST set and clear, and a section off LIVE
    ([((none : Option Time), false), (some 39951, false), (some 39950, false), (some 39950, true)].all fun p =>
      let y := resting .live { Protection.starting with lowRun := p.1, supplyLost := p.2 }
      meets (one y) y && [399, 400].all fun v => decide (sampled y v = some (.live, p.1, p.2, 0))) = true ∧
    ((40000 - 39951 : Time).toNat < params.supplyLossTime ∧ params.supplyLossTime ≤ (40000 - 39950 : Time).toNat) ∧
    (399 < params.vDead ∧ params.vDead ≤ 400) ∧
    (let y := resting .isolated Protection.starting; meets (one y) y = true) ∧
    -- the cool-down check at H_TRIP/2 and just below it
    ([((651520 : Nat), (640000 : Nat)), (651519, 639999)].all fun p =>
      let y := resting (.energizing .cooling) { Protection.starting with h := p.1 }
      meets (one y) y && decide (sampled y 600 = some (.energizing .cooling, none, false, p.2))) = true ∧
    params.hTrip / 2 = 640000 := by
  refine ⟨?_, ?_, ?_, ?_, ?_, ?_, ?_, ?_⟩ <;> decide +kernel

theorem witness_SampleOfAFrame :
    let live := fun p => { inState .live (some .closed) with prot := p }
    let warm := live { Protection.starting with h := 1277440, iPrev := 2000, iLast := 2000 }
    let wide := live { Protection.starting with iPrev := 1860, window := some { base := 620, count := 10, threshold := 1350 } }
    let lost := live { warm.prot with supplyLost := true }
    ([inState .isolated none, live Protection.starting, warm, lost, wide].all fun x => decide ((one x).sect 0 = some x)) = true ∧
    -- INST at exactly I_INST, THERMAL at exactly H_TRIP (by a sample and by a fill step), DELTA above T, and none
    ((live Protection.starting).params.iInst : Int) ≤ |(-3000 : Int)| ∧
    (warm.prot.h : Int) + thermalStep 1200 2000 = warm.params.hTrip ∧ warm.prot.iLast = 2000 ∧
    warm.prot.supplyLost = false ∧ lost.prot.supplyLost = true ∧
    (1350 : Int) ≤ 1990 - 620 ∧ (0 : Int) - 0 < (live Protection.starting).params.didtStart := by decide +kernel

/-- Section 0 TESTING in unit 0, with sections 4 and 30 waiting and the rotation pointer at 18. -/
def contested (x : Sect) : State :=
  let waits := fun (a : LineAddr) => some { inState (.energizing .testWait) (some .opened) with
    params := { params with feederAddr := a }, origin := some .auto, attempts := 1 }
  (((one x).putSect 4 (waits 0x0104)).putSect 30 (waits 0x011E)).putUnit 0
    { holder := some 0, waiting := [4, 30], pointer := 18, lastTest := none }

/-- Section 0 as given, unit 0 held by section 4. -/
def held (x : Sect) : State :=
  ((one x).putSect 4 (some { inState (.energizing .testing) (some .opened) with
    params := { params with feederAddr := 0x0104 }, origin := some .auto, attempts := 1 })).putUnit 0
    { TestUnit.starting with holder := some 4 }

theorem first_of_the_contested : firstFrom 18 [4, 30] 30 := ⟨by decide, by decide⟩

/-- The hypotheses of the grant clauses of `othersKept` and `unitsAfter`: in each statement that names them section 0 leaves
TESTING, and section 30 is granted. -/
theorem witness_grants :
    let x := { inState (.energizing .testing) none with
      origin := some .dispatch, timer := .running 40000 0 0, prot := { Protection.starting with silence := .running 40000 0 0 } }
    meets (contested x) x = true ∧ (contested x).unit 0 = { holder := some 0, waiting := [4, 30], pointer := 18, lastTest := none } ∧
    x.timer.expired 40000 = true ∧ x.prot.silence.expired 40000 = true := by decide +kernel

theorem witness_SilenceTimerExpiry :
    let due := fun st => { inState st none with prot := { Protection.starting with silence := .running 40000 0 0 } }
    (∀ x ∈ [due .live, due .unknown, due (.energizing .cooling)], meets (one x) x = true ∧ x.prot.silence.expired 40000 = true) ∧
    (let x := due (.energizing .testing); meets (testing x) x = true ∧ x.prot.silence.expired 40000 = true) ∧
    (due .live).prot.silence.expired 39999 = false := by decide +kernel

theorem witness_BreakerReportByState :
    (∀ x ∈ [inState .unknown none, inState .isolated none, inState .live none, inState .tripping none
        , inState .isolating none, inState .deadWait none, inState .lockedOut none, inState (.energizing .closing) none
        , inState (.energizing .cooling) none
        , { inState .live none with prot := { Protection.starting with supplyLost := true } }
        , { inState .isolated none with prot := { Protection.starting with supplyLost := true } }], meets (one x) x = true) ∧
    meets (testing (inState (.energizing .testing) none)) (inState (.energizing .testing) none) = true := by decide +kernel

theorem witness_TestResultInTesting :
    let x := inState (.energizing .testing) none
    meets (testing x) x = true ∧ x.state = .energizing .testing ∧ x.params.rMin ≤ ((0 : Byte) ++ (50 : Byte)).toNat ∧
    ((0 : Byte) ++ (49 : Byte)).toNat < x.params.rMin := by decide +kernel

theorem witness_TestResultIgnored :
    let x := inState .live none
    let s := (frogOf idleFrog).setOrders [sentOrder 0x0201 .throwNormal, { sentOrder 0x0101 .trip with state := .queued }]
    let bad := fun b : Byte => 9 < b.toNat / 16 ∨ 9 < b.toNat % 16
    (one x).activity = .running ∧ (one x).mode = .supervise ∧ (one x).sectAt 0x0109 = none ∧
    (one x).sectAt 0x0101 = some 0 ∧ (one x).sect 0 = some x ∧ x.state ≠ .energizing .testing ∧
    -- frames that do not qualify, from a configured source and from others
    s.activity = .running ∧ s.mode = .supervise ∧ s.sectAt 0x0101 = some 0 ∧ s.sectAt 0x0201 = none ∧
    s.frogAt 0x0201 = some 0 ∧ s.frogAt 0x0101 = none ∧
    (∀ n ∈ [31, 33], (List.replicate n (0 : Byte)).length ≠ 32) ∧
    (∀ p ∈ [[], [(0x03 : Byte)], [0x00, 0x00]], p ∉ [[0x00], [0x01], [0x02]]) ∧ ([0] : List Byte).length ≠ 2 ∧
    (∀ p ∈ [[], [(0x04 : Byte)]], p ∉ [[0x00], [0x01], [0x02], [0x03]]) ∧
    -- a SKATE count of 13, a code of 8, a digit above 9
    12 < (13 : Byte).toNat ∧ (0x08 : Byte) ∉ [(0x01 : Byte), 0x02, 0x03, 0x04, 0x05, 0x06, 0x07] ∧ bad 0xA0 ∧ bad 0x0A ∧
    ¬ bad 0x99 ∧
    -- a VEHICLE code of 6, a section and a frog that are not configured, a scope of 5
    (0x06 : Byte) ∉ [(0x01 : Byte), 0x02, 0x03, 0x04, 0x05] ∧ (0x05 : Byte) ∉ [(0x01 : Byte), 0x02, 0x03, 0x04] ∧
    (∀ i : SectionIx, (47 : Byte) = BitVec.ofNat 8 i.val → s.sect i = none) ∧
    (∀ i : SectionIx, (48 : Byte) = BitVec.ofNat 8 i.val → s.sect i = none) ∧
    (∀ f : FrogIx, (64 : Byte) = BitVec.ofNat 8 f.val → s.frog f = none) ∧
    -- an ACK code of 2, and an entry that is queued
    (0x02 : Byte) ∉ [(0x00 : Byte), 0x01] ∧ (∀ e ∈ s.orders, e.target = 0x0101 → e.state = .queued) := by decide +kernel

theorem witness_EnergizeRequestByState :
    let warm := fun h => { inState .isolated none with prot := { Protection.starting with h := h } }
    (∀ x ∈ [inState .unknown none, inState .tripping none, inState .isolating none, inState .live none
        , inState (.energizing .closing) none, inState .isolated none, inState .lockedOut none, inState .deadWait none
        , { inState .isolated none with prot := { Protection.starting with blind := true } }
        , warm 640000, warm 639999], meets (one x) x = true) ∧
    (warm 639999).prot.h < params.hTrip / 2 ∧ params.hTrip / 2 ≤ (warm 640000).prot.h ∧
    (one (warm 0)).unit 0 = TestUnit.starting ∧
    meets (held (warm 639999)) (warm 639999) = true ∧ ((held (warm 639999)).unit 0).holder = some 4 ∧
    (let x := { inState .deadWait (some .opened) with timer := .running 40000 0 0 }
     meets leaking x = true ∧ 0 < leaking.leakCount 0) := by decide +kernel

theorem witness_IsolateRequestByState :
    (∀ x ∈ [inState .unknown none, inState .isolating none, inState .isolated none, inState .tripping none
        , inState .live (some .opened), inState .live (some .closed), inState .deadWait none, inState .lockedOut (some .opened)
        , inState (.energizing .closing) (some .opened), inState (.energizing .cooling) (some .opened)
        , { inState .live none with prot := { Protection.starting with supplyLost := true } }], meets (one x) x = true) ∧
    meets (testing (inState (.energizing .testing) none)) (inState (.energizing .testing) none) = true := by decide +kernel

theorem witness_OrderOfAWrongKindIsRefused :
    -- notices
    State.reset.globals.centreAddr = 0x0000 ∧ bare.globals.centreAddr ≠ 0x0000 ∧
    (let full := fun n => { bare with notices := List.replicate n ⟨0x0100, .tableFull 7⟩ }
     (full 23).notices.length < 24 ∧ 24 ≤ (full 24).notices.length) ∧
    -- a frog's notice
    (∀ q ∈ [[], [passage .set], [{ kind := .dispatch, target := .normal, phase := .throwing }, passage .waiting]],
      (frogOf { idleFrog with queue := q }).frog 0 = some { idleFrog with queue := q }) ∧
    -- refusals
    (List.replicate 120 (0 : Byte)).length ≤ 120 ∧ ([] : List Byte) ∉ [[0x01], [0x02], [0x03]] ∧
    [0x03] ∉ ([[0x05], [0x06]] : List (List Byte)) ∧
    (one (inState .live none)).sectAt 0x0101 = some 0 ∧ (one (inState .live none)).sect 0 = some (inState .live none) ∧
    frogMeets (frogOf idleFrog) idleFrog := by decide +kernel

theorem witness_StateTimerExpiries :
    (∀ st ∈ [SectionState.tripping, .isolating, .energizing .closing],
      let x := { inState st none with timer := .running 40000 0 0 }
      meets (one x) x = true ∧ x.timer.expired 40000 = true ∧ x.timer.expired 39999 = false) ∧
    (let x := { inState (.energizing .testing) none with timer := .running 40000 0 0 }
     meets (testing x) x = true ∧ x.timer.expired 40000 = true) := by decide +kernel

theorem witness_DeadWaitExpiry :
    let x := fun n b h => { inState .deadWait none with
      attempts := n, timer := .running 40000 0 0, prot := { Protection.starting with blind := b, h := h } }
    (∀ y ∈ [x 0 true 0, x 2 false 0, x 1 false 640000, x 1 false 639999],
      meets (one y) y = true ∧ y.timer.expired 40000 = true ∧ y.timer.expired 39999 = false) ∧
    meets (one (inState .live none)) (inState .live none) = true ∧
    params.recloseMax ≤ (x 2 false 0).attempts ∧ (x 1 false 0).attempts < params.recloseMax ∧
    639999 < params.hTrip / 2 ∧ params.hTrip / 2 ≤ 640000 ∧
    (meets (held (x 1 false 0)) (x 1 false 0) = true ∧ ((held (x 1 false 0)).unit 0).holder = some 4) ∧
    (one (x 1 false 0)).leakCount 0 = 0 ∧ 0 < leaking.leakCount 0 := by decide +kernel

/-- The idle frog may be served, with any orders to other targets. -/
theorem idle_mayServe (l : List Order) (h : ∀ e ∈ l, e.target = 0x0201 → e.kind ≠ .throwNormal ∧ e.kind ≠ .throwReverse) :
    mayServe ((frogOf idleFrog).setOrders l) idleFrog :=
  ⟨rfl, ⟨inState .live (some .closed), rfl, rfl, rfl⟩, h⟩

theorem witness_DispatcherThrow :
    (∀ n ∈ [0, 1, 3, 4], let g := { idleFrog with queue := List.replicate n (passage .waiting) }
      frogMeets (frogOf g) g) ∧
    (∀ l ∈ [[], normals 27, normals 28, [sentOrder 0x0201 .close]], mayServe ((frogOf idleFrog).setOrders l) idleFrog) ∧
    (¬ mayServe (frogOf { idleFrog with blocks := { BlockSet.empty with stall := true } })
      { idleFrog with blocks := { BlockSet.empty with stall := true } }) ∧
    -- a head of each phase and kind, before its target's route and away from it
    (∀ r ∈ [passage .set, passage .throwing, passage .waiting, { kind := .dispatch, target := .normal, phase := .waiting }
        , { kind := .returning, target := .normal, phase := .waiting }, { kind := .dispatch, target := .reverse, phase := .waiting }],
      ∀ p ∈ [Route.normal, .reverse],
        let g := { idleFrog with queue := [r], position := .at p }
        (frogOf g).frog 0 = some g) ∧
    idleFrog.position = .at .normal ∧ idleFrog.position ≠ .at .reverse ∧
    (∀ n ∈ [0, 27, 28], ∀ e ∈ normals n, e.target ≠ idleFrog.params.ctrlAddr) ∧ (normals 27).length ≤ 27 ∧
    28 ≤ (normals 28).length ∧ (∃ e ∈ [sentOrder 0x0201 .close], Order.target e = idleFrog.params.ctrlAddr) := by
  have other : ∀ l : List Order, (∀ e ∈ l, e.target ≠ 0x0201) →
      ∀ e ∈ l, e.target = 0x0201 → e.kind ≠ .throwNormal ∧ e.kind ≠ .throwReverse := fun l h e he ht => absurd ht (h e he)
  refine ⟨by decide +kernel, fun l hl => idle_mayServe l ?_, fun h => absurd h.1 (by decide), by decide +kernel, by decide +kernel,
    by decide +kernel, by decide +kernel, by decide +kernel, by decide +kernel, by decide +kernel⟩
  simp only [List.mem_cons, List.not_mem_nil, or_false] at hl
  rcases hl with rfl | rfl | rfl | rfl
  · exact other _ (by decide +kernel)
  · exact other _ (by decide +kernel)
  · exact other _ (by decide +kernel)
  · decide +kernel

theorem witness_SkateEdges :
    (∀ c ∈ [Capture.starting, { Capture.starting with phase := .contact, drawHigh := true, drawStart := .at 7 }
        , { Capture.starting with phase := .settling, fallTick := 65500 }],
      frogMeets (frogOf { idleFrog with capture := c }) { idleFrog with capture := c }) ∧
    -- a lift of exactly BOUNCE_GAP across the wrap of the tick, and one tick more
    ((14 : Tick) - 65500).toNat = idleFrog.params.bounceGap ∧
    idleFrog.params.bounceGap < ((15 : Tick) - 65500).toNat ∧
    -- a frame of one event and of twelve
    (∀ n ∈ [1, 12], 1 ≤ (List.replicate n (⟨.tag, 5, 417⟩ : SkateEvent)).length ∧
      (List.replicate n (⟨.tag, 5, 417⟩ : SkateEvent)).length ≤ 12) := by decide +kernel

theorem witness_SkateTimerExpiries :
    let c := fun (w : Nat) (tag : Option VehicleNumber) (b : Nat) => { Capture.starting with
      phase := .settling, fallTick := BitVec.ofNat 16 w, settle := .running 40000 0 0, tag := tag, bounces := b }
    let g := fun (w n : Nat) (tag : Option VehicleNumber) (b : Nat) =>
      { idleFrog with capture := c w tag b, queue := List.replicate n (passage .waiting) }
    -- widths at the bounds, the queue lengths, with and without a tag, bouncing or not
    (∀ e ∈ [(99, 0, none, 2), (100, 0, none, 3), (100, 1, some (417 : VehicleNumber), 3), (20000, 3, some 417, 2)
        , (20000, 4, some 417, 3), (20001, 0, none, 0)],
      (frogOf (g e.1 e.2.1 e.2.2.1 e.2.2.2)).frog 0 = some (g e.1 e.2.1 e.2.2.1 e.2.2.2) ∧
      (c e.1 e.2.2.1 e.2.2.2).settle.expired 40000 = true) ∧
    frogParams.bounceMax = 2 ∧ (c 5 none 0).settle.expired 39999 = false ∧ ((99 : Tick) - 0).toNat < frogParams.wMin ∧
    frogParams.wMax < ((20001 : Tick) - 0).toNat ∧
    (let h := { idleFrog with capture := { Capture.starting with phase := .contact, hold := .running 40000 0 0 } }
     (frogOf h).frog 0 = some h ∧ h.capture.hold.expired 40000 = true ∧ h.capture.hold.expired 39999 = false) := by
  decide +kernel

theorem witness_PositionReportDuringAThrow :
    (∀ r ∈ [passage .throwing, { kind := .dispatch, target := .normal, phase := .throwing }
        , { kind := .returning, target := .normal, phase := .throwing }],
      ∀ rest ∈ [[], [passage .waiting]], ∀ b ∈ [false, true],
        let g := { idleFrog with
          position := .moving r.target, queue := r :: rest, throwTimer := .running 40500 0 0
          blocks := { BlockSet.empty with overflow := b } }
        frogMeets (frogOf g) g ∧ r.phase = .throwing) ∧ idleFrog.blocks.overflow = false := by decide +kernel

theorem witness_PositionReportAtRest :
    (∀ q ∈ [[], [passage .set], [passage .waiting]],
      let g := { idleFrog with queue := q }
      frogMeets (frogOf g) g ∧ headIn .throwing g.queue = false) ∧ headSetPassage [passage .set] = true ∧
    idleFrog.position = .at .normal ∧ idleFrog.position ≠ .unknown := by decide +kernel

theorem witness_FrogTimerExpiries :
    let t := { idleFrog with position := .moving .reverse, queue := [passage .throwing], throwTimer := .running 40000 0 0 }
    let e := fun (n : Nat) (rest : List Request) (b : Bool) => { idleFrog with
      queue := passage .set :: rest, exitTimer := .running 40000 n 10001, blocks := { BlockSet.empty with overflow := b } }
    (∀ g ∈ [t, e 0 [] false, e 0 [] true, e 0 [passage .waiting] true, e 1 [passage .waiting] false], (frogOf g).frog 0 = some g) ∧
    t.throwTimer.expired 40000 = true ∧
    t.throwTimer.expired 39999 = false ∧ reached 40000 40000 = true ∧ reached 39999 40000 = false ∧
    (e 0 [] true).exitTimer.expired 40000 = true ∧ (e 1 [] true).exitTimer.expired 40000 = false ∧
    (e 0 [] true).exitTimer.periodEnded 40000 = false ∧ headSetPassage (e 0 [] true).queue = true := by decide +kernel

/-- `n` vehicles, numbered from 0, the first of them with an active bounce or without. -/
def vehicles (n : Nat) (faulted : Bool) : List Vehicle :=
  (List.range n).map fun k => { vehicle (Fin.ofNat 10000 k) with bounce := faulted || decide (0 < k) }

/-- The hypotheses of the clauses of `onEntry` and `entryMade`: an entry held, one made below 128 entries, one made by an
eviction at 128, and none made. -/
theorem witness_onEntry :
    (∀ e ∈ [(0, false), (127, true), (128, false), (128, true)], ∀ s ∈ [bare.setVehicles (vehicles e.1 e.2)],
      s.vehicle 9999 = none ∧ s.vehicles.length = e.1) ∧
    ((bare.setVehicles (vehicles 128 true)).vehicle 127).isSome = true ∧
    (∃ v ∈ (bare.setVehicles (vehicles 128 false)).vehicles, faultFree v) ∧
    (∀ v ∈ (bare.setVehicles (vehicles 128 true)).vehicles, ¬ faultFree v) := by
  refine ⟨by decide +kernel, by decide +kernel, ⟨vehicle 0, ?_, rfl, rfl, rfl⟩, fun v hv hf => ?_⟩
  · show vehicle 0 ∈ vehicles 128 false
    decide +kernel
  · have : ∀ v ∈ vehicles 128 true, v.bounce = true := by decide +kernel
    exact absurd (hf.2.2.symm.trans (this v hv)) nofun

theorem witness_ExitShoeFall :
    let g := fun (returns : Bool) (route : Route) (more : List Request) (b : Bool) =>
      { idleFrog with
        params := { frogParams with returns := returns }, position := .at route
        queue := { kind := .passage (some 417) 936, target := route, phase := .set } :: more
        blocks := { BlockSet.empty with overflow := b } }
    frogMeets (frogOf idleFrog) idleFrog ∧ idleFrog.queue = [] ∧
    (∀ returns ∈ [false, true], ∀ route ∈ [Route.normal, .reverse], ∀ more ∈ [[], [passage .waiting]], ∀ b ∈ [false, true],
      frogMeets (frogOf (g returns route more b)) (g returns route more b)) ∧
    frogParams.dflt = .normal ∧ bcdNumber 0x00 0x00 = some 0 ∧
    ((frogOf idleFrog).setVehicles [vehicle 417]).vehicle 417 = some (vehicle 417) := by decide +kernel

theorem witness_LocateReport :
    let s := frogOf idleFrog
    s.activity = .running ∧ s.mode = .supervise ∧ bcdNumber 0x99 0x99 = some 9999 ∧
    -- a place and a frog named, and 0xFF for none
    (s.sect 0).isSome = true ∧ (s.sect 1).isSome = true ∧ (s.frog 0).isSome = true ∧
    (∀ k ∈ [(0 : SectionIx), 1], BitVec.ofNat 8 k.val ≠ (0xFF : Byte)) ∧
    (∀ b ∈ [(0x01 : Byte), 0x04], b ∈ [(0x01 : Byte), 0x02, 0x03, 0x04]) ∧
    (s.setVehicles [vehicle 9999]).vehicle 9999 = some (vehicle 9999) ∧ s.vehicle 9999 = none := by decide +kernel

theorem witness_DewireReport :
    let r : FaultRecord := { code := .bounce, place := .nowhere, heard := 7 }
    let s := frogOf idleFrog
    s.activity = .running ∧ s.mode = .supervise ∧ bcdNumber 0x04 0x17 = some 417 ∧ (s.sect 0).isSome = true ∧
    s.frog 0 = some idleFrog ∧ s.vehicle 417 = none ∧
    (∀ n ∈ [0, 3, 4], ∀ d ∈ [none, some none, some (some (0 : FrogIx))],
      let v := { vehicle 417 with faults := List.replicate n r, dewire := d }
      (s.setVehicles [v]).vehicle 417 = some v ∧ ((s.setVehicles [v]).vehicle 417).bind Vehicle.dewire = d) := by decide +kernel

/-- An entry faulted, without a fault, or cleared by a CLEAR_BLOCK at any time meets the premises on an entry. -/
theorem witness_SecondsTimers_entry (n : Nat) (b : Bool) (c : Option Time) :
    let v := { vehicle 3 with ageTimer := .running 40000 n 1000, bounce := b, clearedAt := c }
    (bare.setVehicles [v]).vehicle 3 = some v ∧ ([v].map Vehicle.number).Nodup :=
  ⟨rfl, List.nodup_singleton _⟩

theorem witness_SecondsTimers :
    (∀ n ∈ [0, 1], let x := { inState .live none with timer := .running 40000 n 1000 }
      (one x).sect 0 = some x ∧ x.state = .live) ∧
    -- a CLEAR_BLOCK just less than 10 s ago and one 10 s ago
    ((9999 : Time).toNat < 1000 * 10 ∧ 1000 * 10 ≤ (10000 : Time).toNat) ∧
    (40000 : Time) - 30001 = 9999 ∧ (40000 : Time) - 30000 = 10000 ∧
    (Timer.running 40000 0 1000).expired 40000 = true ∧ (Timer.running 40000 1 1000).expired 40000 = false ∧
    (Timer.running 40000 0 1000).periodEnded 40000 = false ∧ reached 40000 40000 = true := by decide +kernel

theorem witness_Registration :
    (∀ n ∈ [0, 27, 28, 31, 32], ((normals n).map Order.target).Nodup ∧ (normals n).length ≤ 32 ∧
      ∀ e ∈ normals n, e.target ≠ 0x0101) ∧
    (∃ e ∈ normals 28, e.target = 1000 ∧ e.kind = .test ∧ e.kind ≠ .close ∧ e.kind ≠ .trip ∧ e.kind ≠ .opening) := by
  decide +kernel

/-- The states and operands of the service of the waits in EndingOfASentOrder. -/
theorem witness_serveWaits :
    let waits := fun k => one { inState (.energizing .testing) none with wait := some k }
    -- a section's turn: its registration taken, merged, refused for a conflict and refused for room
    (∀ k ∈ [OrderKind.test, .trip], ((waits k).sect 0).map Sect.wait = some (some k)) ∧
    (register (normals 27) 0x0101 .test).2 = .taken ∧ (register [sentOrder 0x0101 .test] 0x0101 .test).2 = .merged ∧
    (register [sentOrder 0x0101 .trip] 0x0101 .test).2 = .conflict ∧ (register (normals 28) 0x0101 .test).2 = .noRoom ∧
    (register (normals 28) 0x0101 .trip).2 = .taken ∧ bare.sect 0 = none ∧ bare.frog 0 = none ∧
    -- a frog's turn: still without room, and taken
    (let g := { idleFrog with queue := [passage .waiting], wait := some .reverse }
     let full := (frogOf g).setOrders (normals 28)
     let free := (frogOf g).setOrders (normals 27)
     ((headChecked 0 full).frog 0).map Frog.wait = some (some .reverse) ∧ (headChecked 0 full).orders = normals 28 ∧
     (∀ e ∈ normals 28, e.target ≠ 0x0201) ∧ ((headChecked 0 free).frog 0).map Frog.wait = some none) := by decide +kernel

theorem witness_EndingOfASentOrder :
    (∀ k ∈ [OrderKind.trip, .close], let e := sentOrder 0x0300 k
      let s := bare.setOrders [e]
      s.supervising ∧ OrdersOk s ∧ e ∈ s.orders ∧ e.state = .sent 118 (.running 40040 0 0) ∧ s.noWaits ∧
      s.sectAt 0x0300 = none ∧ s.frogAt 0x0300 = none) ∧
    (∀ k ∈ [OrderKind.test, .close, .trip], OrdersOk (bare.setOrders [sentOrder 0x0101 k])) ∧
    -- the owner: a section whose attempt fails, one that is not concerned, and a frog, its head THROWING or not
    (let x := { inState (.energizing .closing) none with origin := some .dispatch }
     meets (one x) x = true) ∧
    (let x := { inState (.energizing .testing) none with origin := some .dispatch }
     meets (testing x) x = true ∧ meets (contested x) x = true) ∧
    meets (one (inState .tripping none)) (inState .tripping none) = true ∧
    (∀ q ∈ [[], [passage .waiting], [passage .throwing]],
      let g := { idleFrog with queue := q }
      let s := (frogOf g).setOrders [sentOrder 0x0201 .throwReverse]
      frogMeets s g ∧ sentOrder 0x0201 .throwReverse ∈ s.orders) ∧
    (Timer.running 40040 0 0).expired 40040 = true ∧ (Timer.running 40040 0 0).expired 40039 = false ∧
    (∀ e ∈ [({ target := 0x0101, kind := .test, state := .queued } : Order)], e.target = 0x0101 → e.state = .queued) := by
  have bs : ∀ i, bare.sect i = none := by decide +kernel
  have bf : ∀ f, bare.frog f = none := by decide +kernel
  have ok : ∀ a k, OrdersOk (bare.setOrders [sentOrder a k]) := fun a k =>
    ⟨by simp [State.setOrders], by simp [State.setOrders, Config.orderCapacity],
      (List.length_filter_le _ _).trans (show 1 ≤ 28 by decide)⟩
  refine ⟨fun k hk => ⟨⟨rfl, rfl⟩, ok _ _, by simp [State.setOrders], rfl,
      ⟨fun i x h => absurd ((bs i).symm.trans h) nofun, fun f g h => absurd ((bf f).symm.trans h) nofun⟩, ?_, ?_⟩,
    fun k _ => ok _ _, ?_⟩
  · revert k; decide +kernel
  · revert k; decide +kernel
  · decide +kernel

theorem witness_FieldFrameStart :
    let u : Order := { target := 0x0101, kind := .trip, state := .queued }
    let n : Order := { target := 0x0300, kind := .test, state := .queued }
    let find := fun (s : State) b => s.orders.find? fun e =>
      decide (e.state = .queued) && ((decide (e.kind = .trip) || decide (e.kind = .opening)) == b)
    let there := fun (s : State) (c : Candidate) => match c with
      | .normalOrder => (find s false).isSome
      | .forward => !s.field.forward.isEmpty
      | _ => false
    let turned := { bare with field := { bare.field with rotation := [.forward, .normalOrder] } }
    bare.activity = .running ∧ find (bare.setOrders [n, u]) true = some u ∧ find (bare.setOrders [n]) true = none ∧
    find (bare.setOrders [n]) false = some n ∧ (∀ s ∈ [bare, turned], s.field.rotation ⊆ [.normalOrder, .forward]) ∧
    -- the first candidate present, in either order, with the other one there or not
    (∀ s ∈ [bare, turned], s.field.rotation.find? (there (s.setOrders [n])) = some .normalOrder ∧
      s.field.rotation.find? (there (queued 1 s)) = some .forward ∧ s.field.rotation.find? (there s) = none) ∧
    turned.field.rotation.find? (there ((queued 1 turned).setOrders [n])) = some .forward ∧
    (queued 1 bare).field.forward = [makeFrame 1 2 0x99 0 []] := by decide +kernel

theorem witness_UplinkFrameStart :
    bare.activity = .running ∧ bare.uplink.rotation ⊆ [.reply, .notice, .forward] ∧
    busy.uplink.rotation.find? (fun c => match c with
      | .reply => !busy.replies.isEmpty
      | .notice => !busy.notices.isEmpty
      | .forward => !busy.uplink.forward.isEmpty
      | .normalOrder => false) = some .reply ∧
    busy.replies ≠ [] ∧ busy.notices ≠ [] ∧ busy.uplink.forward ≠ [] ∧ bare.replies = [] ∧ bare.notices = [] ∧
    bare.uplink.forward = [] := by decide +kernel

/-- The fields of SET_GLOBALS, LOAD_SECTION and LOAD_FROG arguments with a value just outside, as the statement reads them. -/
theorem witness_argumentsOutside :
    let one := fun (a : List Byte) (k : Nat) => (a.getD k 0).toNat
    let two := fun (a : List Byte) (k : Nat) => one a k * 256 + one a (k + 1)
    let four := fun (a : List Byte) (k : Nat) => two a k * 65536 + two a (k + 2)
    let g := fun p : Globals => p.bytes
    let x := fun p : SectionParams => (0 : Byte) :: p.bytes
    let f := fun p : FrogParams => (0 : Byte) :: p.bytes
    -- SET_GLOBALS
    (0xFFFE < two (g { lowGlobals with centreAddr := 0xFFFF }) 0 ∧ two (g { lowGlobals with ackTimeout := 4 }) 2 < 5 ∧
      1000 < two (g { lowGlobals with ackTimeout := 1001 }) 2 ∧ 200 < one (g { lowGlobals with settle := 201 }) 6 ∧
      (∀ n ∈ [9, 3601], let a := g { lowGlobals with vehAge := n }
        a.length = 9 ∧ two a 7 ≠ 0 ∧ (two a 7 < 10 ∨ 3600 < two a 7))) ∧
    -- LOAD_SECTION
    ((x params).length = 39 ∧ 47 < one (48 :: params.bytes) 0 ∧ two (x { params with feederAddr := 0 }) 1 < 1 ∧
      0xFFFE < two (x { params with feederAddr := 0xFFFF }) 1 ∧ two (x { params with ic := 0 }) 4 < 1 ∧
      4000 < two (x { params with ic := 4001 }) 4 ∧ four (x { params with hTrip := 999 }) 16 < 1000 ∧
      2000000000 < four (x { params with hTrip := 2000000001 }) 16 ∧ 3 < one (x { params with recloseMax := 4 }) 28 ∧
      10000 < two (x { params with testTimeout := 10001 }) 37) ∧
    -- LOAD_FROG
    ((f frogParams).length = 24 ∧ 63 < one (64 :: frogParams.bytes) 0 ∧ 1 < one ((f frogParams).set 6 2) 6 ∧
      four (f { frogParams with exitTimeout := 999 }) 10 < 1000 ∧
      120000 < four (f { frogParams with exitTimeout := 120001 }) 10 ∧
      (let a := f { frogParams with wMin := 5000, wMax := 5000 }; two a 16 ≤ two a 14) ∧ 1 < one ((f frogParams).set 23 2) 23) := by
  decide +kernel

theorem witness_RequestsThatAreNotExecuted :
    bare.activity = .running ∧ (9 : LineAddr) ≠ 0x0000 ∧ (List.replicate 117 (0 : Byte)).length ≤ 117 ∧
    (bare.setReplies (List.replicate 3 ⟨9, 1, 1, .ok, []⟩)).replies.length < 4 ∧
    4 ≤ (bare.setReplies (List.replicate 4 ⟨9, 1, 1, .ok, []⟩)).replies.length ∧ (0x00 : Byte) ∉ requestCodes ∧
    (0x43 : Byte) ∉ requestCodes ∧
    -- arguments outside their range
    bare.takes 9 [] ∧ 48 ≤ (48 : Byte).toNat ∧ 64 ≤ (64 : Byte).toNat ∧ 31 < (32 : Byte).toNat ∧
    9 < (0x0A : Byte).toNat % 16 ∧ 9 < (0xA0 : Byte).toNat / 16 ∧
    (∀ r ∈ [(0x00 : Byte), 0x03, 0x40, 0x80, 0xFF], r ∉ [(0x01 : Byte), 0x02, 0x04, 0x08, 0x10, 0x20]) := by
  refine ⟨rfl, by decide, by decide, by decide, by decide, by decide +kernel, by decide +kernel,
    ⟨rfl, by decide, by decide, by decide⟩, ?_⟩
  decide +kernel

/-- `takes` holds at three replies queued and no longer at four. -/
theorem witness_requests_are_taken :
    (bare.setReplies (List.replicate 3 ⟨9, 1, 1, .ok, []⟩)).takes 9 (List.replicate 117 0) ∧
    ¬ (bare.setReplies (List.replicate 4 ⟨9, 1, 1, .ok, []⟩)).takes 9 [] := by
  exact ⟨⟨rfl, by decide, by decide, by decide⟩, fun h => absurd h.2.2.2 (by decide)⟩

theorem witness_StatusReportsAndClears :
    bare.takes 9 [] ∧ 4 ≤ (bare.setReplies (List.replicate 4 ⟨9, 1, 1, .ok, []⟩)).replies.length := by
  exact ⟨⟨rfl, by decide, by decide, by decide⟩, by decide⟩

theorem witness_SetMode :
    bare.takes 9 [2] ∧ 1 < (2 : Byte).toNat ∧ (1 : Byte) = bare.mode.code ∧ (0 : Byte) = Mode.bypass.code ∧
    Mode.bypass ≠ bare.mode := by
  exact ⟨⟨rfl, by decide, by decide, by decide⟩, by decide, by decide, by decide, by decide⟩

theorem witness_SetGlobals :
    bare.takes 9 lowGlobals.bytes ∧ globalsInRange lowGlobals ∧ globalsInRange highGlobals ∧
    globalsInRange { lowGlobals with vehAge := 0 } := by
  exact ⟨⟨rfl, by decide, by decide +kernel, by decide⟩, by decide +kernel, by decide +kernel, by decide +kernel⟩

theorem witness_SectionLoads :
    let s := frogOf idleFrog
    s.takes 9 (0 :: params.bytes) ∧ params.inRanges = true ∧
    -- a clash with section 1, no clash of the parameters that section 0 holds, an unconfigured section, a guarded state
    (∃ j x, j ≠ (0 : SectionIx) ∧ s.sect j = some x ∧ x.params.feederAddr = 0x0102) ∧
    (bare.sect 5 = none ∧ (one (inState .isolated none)).sect 0 = some (inState .isolated none)) ∧
    (one (inState .live none)).sect 0 = some (inState .live none) ∧
    idleFrog.params.names 1 = true ∧ (∀ f, (one (inState .unknown none)).frog f = none) := by
  refine ⟨⟨rfl, by decide, by decide +kernel, by decide⟩, by decide +kernel, ⟨1, _, by decide, rfl, by decide⟩, ?_, ?_, ?_, ?_⟩
    <;> decide +kernel

theorem witness_FrogLoads :
    let s := frogOf idleFrog
    s.takes 9 (0 :: frogParams.bytes) ∧ frogParams.inRanges = true ∧ (s.sect 0).isSome = true ∧ (s.sect 1).isSome = true ∧
    s.sect 5 = none ∧ s.frog 0 = some idleFrog ∧ s.frog 63 = none ∧ idleFrog.queue = [] ∧
    busy.frog 0 = some busyFrog ∧ busyFrog.queue ≠ [] := by
  refine ⟨⟨rfl, by decide, by decide +kernel, by decide⟩, ?_⟩
  decide +kernel

theorem witness_LoadFilter :
    bare.takes 9 [31, 1, 2, 0xFF, 0xFF, 0, 4, 0, 4, 1] ∧ (31 : Byte).toNat = (31 : RuleIx).val ∧ 31 < (32 : Byte).toNat ∧
    ((0 : Byte) ++ (4 : Byte) : LineAddr).toNat ≤ ((0 : Byte) ++ (4 : Byte) : LineAddr).toNat := by
  exact ⟨⟨rfl, by decide, by decide, by decide⟩, by decide, by decide, by decide⟩

theorem witness_Reads :
    let s := (frogOf idleFrog).setVehicles [vehicle 417]
    s.takes 9 [] ∧ s.sect 47 = none ∧ s.sect 0 = some (inState .live (some .closed)) ∧ s.frog 63 = none ∧
    s.frog 0 = some idleFrog ∧ busy.frog 0 = some busyFrog ∧ s.vehicle 9999 = none ∧ s.vehicle 417 = some (vehicle 417) ∧
    (31 : Byte).toNat ≤ 31 := by
  refine ⟨⟨rfl, by decide, by decide, by decide⟩, ?_⟩
  decide +kernel

theorem witness_PopFault :
    let v := { vehicle 417 with faults := [{ code := .bounce, place := .nowhere, heard := 7 }] }
    let s := bare.setVehicles [v, vehicle 418]
    s.takes 9 (bcdBytes 417) ∧ s.vehicle 3 = none ∧ s.vehicle 418 = some (vehicle 418) ∧ (vehicle 418).faults = [] ∧
    s.vehicle 417 = some v := by
  refine ⟨⟨rfl, by decide, by decide, by decide⟩, ?_⟩
  decide +kernel

theorem witness_SignOffVehicle :
    let v := fun n d => { vehicle n with dewire := d }
    let s := (frogOf idleFrog).setVehicles [v 1 none, v 2 (some none), v 3 (some (some 0))]
    s.takes 9 (bcdBytes 3) ∧ s.vehicle 4 = none ∧ s.vehicle 1 = some (v 1 none) ∧ s.vehicle 2 = some (v 2 (some none)) ∧
    s.vehicle 3 = some (v 3 (some (some 0))) ∧ s.frog 0 = some idleFrog := by
  refine ⟨⟨rfl, by decide, by decide, by decide⟩, ?_⟩
  decide +kernel

theorem witness_FrogRequests :
    bare.takes 9 [] ∧ bare.frog 0 = none ∧
    -- a frog with every block and a WAITING head behind which others wait, or with none, and a vehicle dewired there
    (∀ g ∈ [idleFrog, { idleFrog with
          queue := [passage .waiting, passage .waiting], untracked := true, wait := some .normal
          blocks := ⟨true, true, true, true, true, true⟩ }],
      ((frogOf g).setVehicles [{ vehicle 417 with dewire := some (some 0) }]).frog 0 = some g) := by
  refine ⟨⟨rfl, by decide, by decide, by decide⟩, by decide +kernel, by decide +kernel⟩

theorem witness_ResetBegins :
    bare.takes 9 [] ∧ (after .resetPin bare).activity = .resetting ∧
    (after (.restart 9 0 1 []) bare).activity = .holding 5 := by
  refine ⟨⟨rfl, by decide, by decide, by decide⟩, ?_⟩
  decide +kernel

theorem witness_ResetEnds :
    (after .resetPin bare).activity = .resetting ∧ bare.activity ≠ .resetting ∧
    (let h := { bare with activity := .holding 1 }; h.activity ≠ .holding 0) ∧
    (let h := { bare with activity := .holding 0 }; h.activity = .holding 0) := by decide +kernel

end Sys2Proof.Tests
end

section
/-!
PROOFS. The protection engine (spec/01): what a trip does to a section that is LIVE, the thermal step and H, one sample and
one fill step. The statements settled stand at the end.
-/

namespace Sys2Proof.Machine

variable {s : State}

/-! ## Operations that act on different fields -/

theorem raise_setOrders (b : NoticeBody) (l : List Order) (s : State) :
    raise b (s.setOrders l) = (raise b s).setOrders l := by
  have h : (s.setOrders l).globals = s.globals ∧ (s.setOrders l).notices = s.notices := ⟨rfl, rfl⟩
  simp only [raise, h.1, h.2]
  split_ifs <;> rfl

theorem raise_putSect (b : NoticeBody) (i : SectionIx) (x : Option Sect) (s : State) :
    raise b (s.putSect i x) = (raise b s).putSect i x := by
  have h : (s.putSect i x).globals = s.globals ∧ (s.putSect i x).notices = s.notices := ⟨rfl, rfl⟩
  simp only [raise, h.1, h.2]
  split_ifs <;> rfl

theorem putSect_putSect (i : SectionIx) (x y : Option Sect) (s : State) :
    (s.putSect i x).putSect i y = s.putSect i y := by
  simp [State.putSect, State.setSections]

/-! ## The heads of a section's frogs, the section without power (R25, R93) -/

/-- What the loss of section `i`'s power does to a frog: a WAITING head's registration wait goes, if `i` powers the frog. -/
def Frog.unpowered (i : SectionIx) (g : Frog) : Frog :=
  if decide (g.params.powerSection = i) && g.queue.head?.any (fun r => decide (r.phase = .waiting)) then
    { g with wait := none }
  else g

theorem Frog.unpowered_other {i : SectionIx} {g : Frog} (h : g.params.powerSection ≠ i) : g.unpowered i = g := by
  simp [Frog.unpowered, h]

theorem Frog.unpowered_unpowered (i : SectionIx) (g : Frog) : (g.unpowered i).unpowered i = g.unpowered i := by
  by_cases h : (decide (g.params.powerSection = i) && g.queue.head?.any (fun r => decide (r.phase = .waiting))) = true
  · simp only [Frog.unpowered, h, if_true]
  · simp only [Frog.unpowered, h, if_false, Bool.false_eq_true]

/-- A head whose section is not powered is not served (R93). -/
theorem checkHead_unpowered {f : FrogIx} {g : Frog} (hg : s.frog f = some g)
    (hp : s.powered g.params.powerSection = false) :
    checkHead f s = (s.putFrog f (some (g.unpowered g.params.powerSection)), false) := by
  have hn : headReady s g = false := by simp [headReady, hp]
  unfold checkHead Frog.unpowered; rw [hg]; dsimp only
  cases hq : g.queue with
  | nil => simp [checkQueue, frog_self hg]
  | cons r rest =>
    by_cases hr : r.phase = .waiting
    · simp [checkQueue, hg, hr, hn, hq]
    · simp [checkQueue, hg, hr, frog_self hg]

/-- One frog's turn in the check of the heads of section `i`'s frogs (R25). -/
def headTurn (i : SectionIx) (t : State) (f : FrogIx) : State :=
  match t.frog f with
  | some g => if g.params.powerSection = i then noteFrog f (checkHead f t) else t
  | none => t

theorem checkHeadsOf_eq_foldl (i : SectionIx) (s : State) :
    checkHeadsOf i s = (List.finRange 64).foldl (headTurn i) s := rfl

theorem headTurn_unpowered {i : SectionIx} (f : FrogIx) (hp : s.powered i = false) :
    headTurn i s f = s.editFrog f (Frog.unpowered i) := by
  unfold headTurn State.editFrog
  cases hg : s.frog f with
  | none => rfl
  | some g =>
    dsimp only
    split
    next hi => subst hi; rw [checkHead_unpowered hg hp]; rfl
    next hi => rw [Frog.unpowered_other hi, frog_self hg]

theorem editFrog_eq_setFrogs (f : FrogIx) (h : Frog → Frog) (s : State) :
    ∃ v, s.editFrog f h = s.setFrogs v ∧ ∀ k, v.get k = if k = f then (s.frog k).map h else s.frog k := by
  unfold State.editFrog
  cases hg : s.frog f with
  | none =>
    refine ⟨s.frogs, rfl, fun k => ?_⟩
    split
    next e => subst e; rw [hg]; exact hg
    next => rfl
  | some g =>
    refine ⟨_, rfl, fun k => ?_⟩
    rw [get_set_table]
    split
    next e => subst e; rw [hg]; rfl
    next => rfl

theorem foldl_headTurn_unpowered {i : SectionIx} (l : List FrogIx) (hp : s.powered i = false) :
    ∃ v, l.foldl (headTurn i) s = s.setFrogs v ∧
      ∀ k, v.get k = if k ∈ l then (s.frog k).map (Frog.unpowered i) else s.frog k := by
  induction l generalizing s with
  | nil => exact ⟨s.frogs, rfl, fun _ => rfl⟩
  | cons f l ih =>
    obtain ⟨w, hw, hwk⟩ := editFrog_eq_setFrogs f (Frog.unpowered i) s
    obtain ⟨v, hv, hvk⟩ := ih (s := s.setFrogs w) hp
    refine ⟨v, by rw [List.foldl_cons, headTurn_unpowered f hp, hw, hv]; rfl, fun k => ?_⟩
    rw [hvk k, show (s.setFrogs w).frog k = w.get k from rfl, hwk k]
    have htwice : ((s.frog k).map (Frog.unpowered i)).map (Frog.unpowered i) = (s.frog k).map (Frog.unpowered i) := by
      cases s.frog k with
      | none => rfl
      | some g => simp [Frog.unpowered_unpowered]
    simp only [List.mem_cons]
    split_ifs <;> simp_all

/-- The heads of the frogs of a section that is not powered are checked: registration waits go, and nothing else changes. -/
theorem checkHeadsOf_unpowered {i : SectionIx} (hp : s.powered i = false) :
    ∃ v, checkHeadsOf i s = s.setFrogs v ∧ ∀ k, v.get k = (s.frog k).map (Frog.unpowered i) := by
  obtain ⟨v, hv, hk⟩ := foldl_headTurn_unpowered (List.finRange 64) hp
  exact ⟨v, hv, fun k => by simpa using hk k⟩

/-- The check of the heads after section `i` was left without power: none if it had no power before. -/
theorem checkIfPowerChanged_unpowered {i : SectionIx} (hp : s.powered i = false) (before : Bool) :
    ∃ v, checkIfPowerChanged i before s = s.setFrogs v ∧ (before = false → v = s.frogs) ∧
      (before = true → ∀ k, v.get k = (s.frog k).map (Frog.unpowered i)) := by
  unfold checkIfPowerChanged; rw [hp]
  cases before with
  | false => exact ⟨s.frogs, rfl, fun _ => rfl, nofun⟩
  | true =>
    obtain ⟨v, hv, hk⟩ := checkHeadsOf_unpowered hp
    exact ⟨v, hv, nofun, fun _ => hk⟩

/-! ## A trip from LIVE (R35) -/

/-- The section `x`, LIVE, after a trip, the order list before being `l`. -/
def Sect.trippedFor (r : TripReason) (now : Time) (l : List Order) (x : Sect) : Sect :=
  { x with
    state := .tripping, tripReason := some r, isolateOnOpen := false, timer := Timer.start now x.params.openTimeout
    prot := x.prot.leftLive, wait := (asked l x.params.feederAddr .trip).2 }

/-- The notices of a trip of the section `x` (R24, R51). -/
def tripTold (i : SectionIx) (r : TripReason) (x : Sect) (s : State) : State :=
  let q := raise (.sectionState i .tripping (some r) x.lockReason x.attempts x.prot.h) s
  if x.prot.supplyLost then raise (.sectionFlag i .supplyLost false) q else q

/-- A registration by a section, as `asked` says it (R49). -/
theorem registerFor_putSect (i : SectionIx) (k : OrderKind) (x : Sect) (s : State) :
    registerFor i k (s.putSect i (some x)) = (s.setOrders (asked s.orders x.params.feederAddr k).1).putSect i
      (some { x with wait := (asked s.orders x.params.feederAddr k).2 }) := by
  have hw : (if (register s.orders x.params.feederAddr k).2.registered then none else some k)
      = (asked s.orders x.params.feederAddr k).2 := by
    unfold asked; cases (register s.orders x.params.feederAddr k).2 <;> rfl
  have hp : ∀ y, ((s.putSect i (some x)).setOrders (register s.orders x.params.feederAddr k).1).putSect i y
      = (s.setOrders (register s.orders x.params.feederAddr k).1).putSect i y :=
    fun y => putSect_putSect i (some x) y (s.setOrders (register s.orders x.params.feederAddr k).1)
  rw [← hw]
  simp only [registerFor, State.sect_putSect_same, State.putSect_orders, hp]
  rfl

theorem raiseSection_putSect (i : SectionIx) (x : Sect) (s : State) :
    raiseSection i (s.putSect i (some x))
      = (raise (.sectionState i x.state x.tripReason x.lockReason x.attempts x.prot.h) s).putSect i (some x) := by
  simp only [raiseSection, State.sect_putSect_same, raise_putSect]

/-- Entry to TRIPPING from LIVE concerns no test unit. -/
theorem enterState_tripping_live (i : SectionIx) (o : TestOutcome) {x : Sect} (hl : x.state = .live) (s : State) :
    enterState i .tripping none o (s.putSect i (some x)) = checkIfPowerChanged i (!x.prot.supplyLost)
      (raiseSupplyCleared i x .tripping
        (raiseSection i (registerFor i .trip (s.putSect i (some (x.entered s.partTime .tripping)))))) := by
  have hp : (s.putSect i (some x)).powered i = !x.prot.supplyLost := by simp [State.powered, hl]
  have ht : ∀ t, leaveTest i x o t = t := fun t => leaveTest_none o t (by simp [hl]) (by simp [hl])
  simp only [enterState, State.sect_putSect_same, putSect_putSect, ht, hp, ite_self]
  rfl

theorem raiseSupplyCleared_tripping (i : SectionIx) {x : Sect} (hl : x.state = .live) (s : State) :
    raiseSupplyCleared i x .tripping s = if x.prot.supplyLost then raise (.sectionFlag i .supplyLost false) s else s := by
  simp [raiseSupplyCleared, hl]

theorem trip_live (i : SectionIx) (r : TripReason) {x : Sect} (hl : x.state = .live) (s : State) :
    trip i r (s.putSect i (some x)) = checkIfPowerChanged i (!x.prot.supplyLost)
      (((tripTold i r x s).setOrders (asked s.orders x.params.feederAddr .trip).1).putSect i
        (some (x.trippedFor r s.partTime s.orders))) := by
  have hedit : (s.putSect i (some x)).editSect i (fun x => { x with tripReason := some r, isolateOnOpen := false })
      = s.putSect i (some { x with tripReason := some r, isolateOnOpen := false }) := by
    simp only [State.editSect, State.sect_putSect_same, putSect_putSect]
  have hent : ({ x with tripReason := some r, isolateOnOpen := false } : Sect).entered s.partTime .tripping
      = { x with
          state := .tripping, tripReason := some r, isolateOnOpen := false, wait := none
          timer := Timer.start s.partTime x.params.openTimeout, prot := x.prot.leftLive } := by
    simp [Sect.entered, hl, entryTimer]
  rw [trip, hedit, enterState_tripping_live i _ (x := { x with tripReason := some r, isolateOnOpen := false }) hl, hent,
     registerFor_putSect, raiseSection_putSect, raise_setOrders]
  rw [raiseSupplyCleared_tripping i (x := { x with tripReason := some r, isolateOnOpen := false }) hl, tripTold]
  congr 1
  dsimp only
  split
  · rw [raise_putSect, raise_setOrders]; rfl
  · rfl

/-- What a trip for reason `r` of section `i`, which is `x` and LIVE, makes of the state `s` (R24, R25, R35, R51). -/
structure Tripped (i : SectionIx) (r : TripReason) (x : Sect) (s t : State) : Prop where
  tripping : t.sect i = some (x.trippedFor r s.partTime s.orders)
  orders : t.orders = (asked s.orders x.params.feederAddr .trip).1
  others : ∀ j, j ≠ i → t.sect j = s.sect j
  units : t.units = s.units
  heads : x.prot.supplyLost = false → waitsWithdrawn i s t
  frogs : x.prot.supplyLost = true → t.frogs = s.frogs
  notices : t.notices = (tripTold i r x s).notices
  noticeLost : t.noticeLost = (tripTold i r x s).noticeLost
  beside : t.besideSections = s.besideSections

theorem tripTold_beside (i : SectionIx) (r : TripReason) (x : Sect) (s : State) :
    (tripTold i r x s).besideNotices = s.besideNotices := by
  unfold tripTold; dsimp only
  split <;> simp

theorem trip_tripped (i : SectionIx) (r : TripReason) {x : Sect} (hl : x.state = .live) (s : State) :
    Tripped i r x s (trip i r (s.putSect i (some x))) := by
  have hq := tripTold_beside i r x s
  have hsect : ∀ j, (tripTold i r x s).sect j = s.sect j := sect_congr (congrArg State.sections hq :)
  have hfrogs : (tripTold i r x s).frogs = s.frogs := (congrArg State.frogs hq :)
  have hunits : (tripTold i r x s).units = s.units := (congrArg State.units hq :)
  have hbeside : (trip i r (s.putSect i (some x))).besideSections = s.besideSections := by simp
  obtain ⟨v, hv, hkept, hchecked⟩ := checkIfPowerChanged_unpowered (i := i)
    (s := ((tripTold i r x s).setOrders (asked s.orders x.params.feederAddr .trip).1).putSect i
      (some (x.trippedFor r s.partTime s.orders))) (by simp [State.powered, Sect.trippedFor]) (!x.prot.supplyLost)
  rw [trip_live i r hl, hv] at hbeside ⊢
  refine ⟨?_, rfl, fun j hj => ?_, hunits, fun hs f => ?_, fun hs => ?_, rfl, rfl, hbeside⟩
  · rw [State.sect_setFrogs, State.sect_putSect_same]
  · rw [State.sect_setFrogs, State.sect_putSect, if_neg hj, State.sect_setOrders, hsect]
  · have hf : ((tripTold i r x s).frog f) = s.frog f := frog_congr hfrogs f
    rw [← hf]
    exact hchecked (by rw [hs]; rfl) f
  · rw [State.setFrogs_frogs, hkept (by rw [hs]; rfl)]
    exact hfrogs

/-! ## The thermal step and H (R14, R15) -/

theorem thermalStep_of_nonneg {ic : Nat} {i : Int} (h : 0 ≤ i * i - (ic : Int) * ic) :
    thermalStep ic i * 1000 ≤ i * i - ic * ic ∧ i * i - ic * ic < thermalStep ic i * 1000 + 1000 := by
  rw [thermalStep, Int.tdiv_eq_ediv_of_nonneg h]
  omega

theorem thermalStep_of_nonpos {ic : Nat} {i : Int} (h : i * i - (ic : Int) * ic ≤ 0) :
    i * i - ic * ic ≤ thermalStep ic i * 1000 ∧ thermalStep ic i * 1000 - 1000 < i * i - ic * ic := by
  have hneg : thermalStep ic i = -((ic * ic - i * i : Int).tdiv 1000) := by
    rw [thermalStep, ← Int.neg_sub (ic * ic : Int), Int.neg_tdiv]
  rw [hneg, Int.tdiv_eq_ediv_of_nonneg (by omega)]
  omega

theorem thermalStep_neg (ic : Nat) (i : Int) : thermalStep ic (-i) = thermalStep ic i := by
  simp [thermalStep]

/-- The steps of a clamped current are at most those of 8000 A and at least those of 0 A. -/
theorem thermalStep_bounds {ic : Nat} {i : Int} (h1 : 1 ≤ ic) (h2 : ic ≤ 4000) (hi : CurrentOk i) :
    -16000 ≤ thermalStep ic i ∧ thermalStep ic i ≤ 63999 := by
  obtain ⟨hlo, hhi⟩ : -8000 ≤ i ∧ i ≤ 8000 := hi
  have hi0 : 0 ≤ i * i := mul_self_nonneg i
  have hi1 : i * i ≤ 64000000 := by nlinarith
  have hc0 : 1 ≤ (ic : Int) * ic := by exact_mod_cast Nat.mul_le_mul h1 h1
  have hc1 : (ic : Int) * ic ≤ 16000000 := by exact_mod_cast Nat.mul_le_mul h2 h2
  obtain h | h := le_total 0 (i * i - (ic : Int) * ic)
  · have := thermalStep_of_nonneg h
    omega
  · have := thermalStep_of_nonpos h
    omega

theorem thermalStep_deadBand {ic : Nat} {i : Int} (h1 : -1000 < i * i - (ic : Int) * ic)
    (h2 : i * i - (ic : Int) * ic < 1000) : thermalStep ic i = 0 := by
  obtain h | h := le_total 0 (i * i - (ic : Int) * ic)
  · have := thermalStep_of_nonneg h
    omega
  · have := thermalStep_of_nonpos h
    omega

/-- H after a step, within its range. -/
theorem cast_nextH (h ic : Nat) (i : Int) : (nextH h ic i : Int) = min (max ((h : Int) + thermalStep ic i) 0) 2147483647 :=
  Int.toNat_of_nonneg (le_min (le_max_right _ _) (by decide))

theorem clamped_current (m : Sample) : m.clamped.current = max (-8000) (min 8000 m.current) := rfl

/-! ## One sample and one fill step -/

/-- The ΔI check trips exactly when the window it leaves is open and the current exceeds its base by its threshold. -/
theorem deltaCheck_trips (p : SectionParams) (n : Nat) (w : Option Window) (iPrev i : Int) :
    (deltaCheck p n w iPrev i).2 = true ↔
      ∃ w', (deltaCheck p n w iPrev i).1 = some w' ∧ w'.threshold ≤ i - w'.base := by
  cases w with
  | none => unfold deltaCheck openWindow; dsimp only; split_ifs <;> simp
  | some w => unfold deltaCheck judgeWindow; dsimp only; split_ifs <;> simp

/-- A section with its window, its H and its I_prev as a sample or a fill step leaves them. -/
def Sect.measured (w : Option Window) (h : Nat) (prev : Int) (x : Sect) : Sect :=
  { x with prot := { x.prot with window := w, h := h, iPrev := prev } }

/-- A sample adds the thermal step of its current to H and becomes I_prev, whatever it does to the window. -/
theorem judgeSample_measured (n : Nat) (x : Sect) (i : Int) :
    ∃ w, (judgeSample n x i).1 = x.measured w (nextH x.prot.h x.params.ic i) i := ⟨_, rfl⟩

theorem judgeSample_not_live {x : Sect} (n : Nat) (i : Int) (hl : x.state ≠ .live) :
    judgeSample n x i = (x.measured x.prot.window (nextH x.prot.h x.params.ic i) i, none) := by
  simp [judgeSample, Sect.measured, hl]

/-- In LIVE the reason is the first met of INST, DELTA and THERMAL. -/
theorem judgeSample_reason {x : Sect} (n : Nat) (i : Int) (hl : x.state = .live) :
    (judgeSample n x i).2 =
      if x.prot.blind = false ∧ (x.params.iInst : Int) ≤ |i| then some .inst
      else if x.prot.blind = false ∧ (deltaCheck x.params n x.prot.window x.prot.iPrev i).2 = true then some .delta
      else if x.params.hTrip ≤ nextH x.prot.h x.params.ic i then some .thermal
      else none := by
  cases hb : x.prot.blind with
  | true => simp [judgeSample, hl, hb]
  | false => by_cases hi : (x.params.iInst : Int) ≤ |i| <;> simp [judgeSample, hl, hb, hi]

/-- In LIVE with no trip the window is the one the ΔI check leaves, which a BLIND section does not make. -/
theorem judgeSample_no_trip {x : Sect} {n : Nat} {i : Int} (hl : x.state = .live) (hr : (judgeSample n x i).2 = none) :
    (judgeSample n x i).1 = x.measured
      (if x.prot.blind then x.prot.window else (deltaCheck x.params n x.prot.window x.prot.iPrev i).1)
      (nextH x.prot.h x.params.ic i) i := by
  cases hb : x.prot.blind with
  | true => simp [judgeSample, Sect.measured, hl, hb]
  | false =>
    have hi : ¬ (x.params.iInst : Int) ≤ |i| := fun h => by simp [judgeSample_reason n i hl, hb, h] at hr
    simp [judgeSample, Sect.measured, hl, hb, hi]

theorem takeSample_eq {i : SectionIx} {x : Sect} (m : Sample) (hx : s.sect i = some x) :
    takeSample i s m = tripIf i (judgeSample (s.vehicleCount i) x m.clamped.current).2
      (s.putSect i (some (judgeSample (s.vehicleCount i) x m.clamped.current).1)) := by
  simp only [takeSample, hx]

theorem fillStep_eq {i : SectionIx} {x : Sect} (hx : s.sect i = some x) :
    fillStep i s = tripIf i
      (if x.state = .live ∧ x.params.hTrip ≤ nextH x.prot.h x.params.ic x.prot.iLast then some .thermal else none)
      (s.putSect i (some (x.measured x.prot.window (nextH x.prot.h x.params.ic x.prot.iLast) x.prot.iPrev))) := by
  simp only [fillStep, hx]; rfl

/-- A trip, if a reason was met in LIVE, leaves H as it is. -/
theorem tripIf_heat (i : SectionIx) {r : Option TripReason} {x : Sect} (s : State) (hr : x.state ≠ .live → r = none) :
    ∃ y, (tripIf i r (s.putSect i (some x))).sect i = some y ∧ y.prot.h = x.prot.h := by
  cases r with
  | none => exact ⟨x, State.sect_putSect_same s i _, rfl⟩
  | some r =>
    have hl : x.state = .live := by by_contra h; cases hr h
    exact ⟨_, (trip_tripped i r hl s).tripping, rfl⟩

theorem takeSample_heat {i : SectionIx} {x : Sect} (m : Sample) (hx : s.sect i = some x) :
    ∃ y, (takeSample i s m).sect i = some y ∧
      (y.prot.h : Int) = min (max ((x.prot.h : Int) + thermalStep x.params.ic m.clamped.current) 0) 2147483647 := by
  obtain ⟨w, hw⟩ := judgeSample_measured (s.vehicleCount i) x m.clamped.current
  obtain ⟨y, hy, hh⟩ := tripIf_heat i (r := (judgeSample (s.vehicleCount i) x m.clamped.current).2)
    (x := x.measured w (nextH x.prot.h x.params.ic m.clamped.current) m.clamped.current) s
    (fun hl => by rw [judgeSample_not_live (x := x) _ _ hl])
  exact ⟨y, by rw [takeSample_eq m hx, hw, hy], by rw [hh]; exact cast_nextH _ _ _⟩

theorem fillStep_heat {i : SectionIx} {x : Sect} (hx : s.sect i = some x) :
    ∃ y, (fillStep i s).sect i = some y ∧
      (y.prot.h : Int) = min (max ((x.prot.h : Int) + thermalStep x.params.ic x.prot.iLast) 0) 2147483647 := by
  obtain ⟨y, hy, hh⟩ := tripIf_heat i
    (r := if x.state = .live ∧ x.params.hTrip ≤ nextH x.prot.h x.params.ic x.prot.iLast then some .thermal else none)
    (x := x.measured x.prot.window (nextH x.prot.h x.params.ic x.prot.iLast) x.prot.iPrev) s
    (fun hl => if_neg fun h => hl h.1)
  exact ⟨y, by rw [fillStep_eq hx, hy], by rw [hh]; exact cast_nextH _ _ _⟩

/-! ## The statements -/

/-- Settles O22: the quotient by the sign of I² − IC², and H by the sample and the fill step. -/
theorem thermalStepOfACurrent : Obligations.ThermalStepOfACurrent := by
  unfold Obligations.ThermalStepOfACurrent
  intro ic i h1 h2 hi
  obtain ⟨hlo, hhi⟩ := thermalStep_bounds h1 h2 hi
  refine ⟨thermalStep_of_nonneg, thermalStep_of_nonpos, hlo, hhi, thermalStep_neg ic i, thermalStep_deadBand, by decide,
    fun s k x m hx hic => ⟨fun hm => ?_, fun hlast => ?_⟩⟩
  · rw [← hm, ← hic, ← clamped_current]
    exact takeSample_heat m hx
  · rw [← hlast, ← hic]
    exact fillStep_heat hx

/-- Settles O24: the reason by the judgement of the sample, and the trip by `Tripped`. -/
theorem sampleOfAFrame : Obligations.SampleOfAFrame := by
  unfold Obligations.SampleOfAFrame
  intro s i x m hx a d heat frozen opened reason tripped
  have hopened : opened = (deltaCheck x.params (s.vehicleCount i) x.prot.window x.prot.iPrev a).1 := by
    cases hw : x.prot.window with
    | none =>
      simp only [opened, hw, deltaCheck, openWindow]
      split_ifs <;> rfl
    | some w =>
      simp only [opened, hw, deltaCheck, judgeWindow]
      split_ifs <;> simp_all [d]
  have hdelta : (∃ w, opened = some w ∧ w.threshold ≤ a - w.base) ↔
      (deltaCheck x.params (s.vehicleCount i) x.prot.window x.prot.iPrev a).2 = true := by
    rw [hopened, deltaCheck_trips]
  have hreason : x.state = .live → (judgeSample (s.vehicleCount i) x m.clamped.current).2 = reason := fun hl => by
    rw [judgeSample_reason _ _ hl]
    simp only [reason, hdelta]
    rfl
  have htripped : x.state = .live → ∀ r w h prev,
      tripped (trip i r (s.putSect i (some (x.measured w h prev)))) r h prev := fun hl r w h prev =>
    have ht := trip_tripped i r (x := x.measured w h prev) hl s
    ⟨⟨_, ht.tripping, rfl, rfl, rfl, rfl, rfl, rfl, rfl, rfl, rfl, rfl, rfl⟩, ht.orders, ht.others, ht.units, ht.heads,
      ht.frogs, ht.notices, ht.noticeLost, ht.beside⟩
  refine ⟨fun hl => ?_, fun hl hr => ?_, fun r hl hr => ?_, fun h => ?_, fun hl h => ?_⟩
  · rw [takeSample_eq m hx, judgeSample_not_live _ _ hl]
    rfl
  · have hn := (hreason hl).trans hr
    rw [takeSample_eq m hx, judgeSample_no_trip hl hn, hn, hopened]
    rfl
  · obtain ⟨w, hw⟩ := judgeSample_measured (s.vehicleCount i) x m.clamped.current
    rw [takeSample_eq m hx, hw, hreason hl, hr]
    exact htripped hl r w _ _
  · rw [fillStep_eq hx, if_neg fun ⟨hl, hge⟩ => h.elim (fun hn => hn hl) (fun hlt => Nat.not_lt.mpr hge hlt)]
    rfl
  · rw [fillStep_eq hx, if_pos ⟨hl, h⟩]
    exact htripped hl .thermal _ _ _

end Sys2Proof.Machine
end

section
/-!
PROOFS. Frames of the field devices that do not qualify (R4, R30, R59, R62, R67, R97, R108, R137, R144): what each payload
parser refuses, that processing such a frame changes nothing, and that it is left to the filter alone. The statement settled
stands at the end.
-/

namespace Sys2Proof.Machine

variable {s : State} {f : Frame}

/-! ## Payloads outside their codes

Each parser reads a byte by its number; a byte outside the list of codes differs in number from each of them. -/

/-- A BCD byte with a digit above 9 (spec/00 section 4.5). -/
def BadDigit (b : Byte) : Prop := 9 < b.toNat / 16 ∨ 9 < b.toNat % 16

theorem bcdNumber_eq_none {hi lo : Byte} (h : BadDigit hi ∨ BadDigit lo) : bcdNumber hi lo = none := by
  unfold BadDigit at h
  exact if_neg (by omega)

theorem parseBreaker_eq_none {p : List Byte} (h : p ∉ [[0x00], [0x01], [0x02]]) : parseBreaker p = none := by
  unfold parseBreaker
  split
  · split <;> simp_all [← BitVec.toNat_inj]
  · rfl

theorem parsePosition_eq_none {p : List Byte} (h : p ∉ [[0x00], [0x01], [0x02], [0x03]]) : parsePosition p = none := by
  unfold parsePosition
  split
  · split <;> simp_all [← BitVec.toNat_inj]
  · rfl

theorem parseTestResult_eq_none {p : List Byte} (h : p.length ≠ 2) : parseTestResult p = none := by
  unfold parseTestResult
  split
  · exact absurd rfl h
  · rfl

theorem parseEdge_eq_none {b : Byte} (h : b ∉ [(0x01 : Byte), 0x02, 0x03, 0x04, 0x05, 0x06, 0x07]) :
    parseEdge b = none := by
  unfold parseEdge
  split <;> simp_all [← BitVec.toNat_inj]

theorem parseScope_eq_none {b : Byte} (h : b ∉ [(0x01 : Byte), 0x02, 0x03, 0x04]) : parseScope b = none := by
  unfold parseScope
  split <;> simp_all [← BitVec.toNat_inj]

theorem reportOf_eq_none {b : Byte} (h : b ∉ [(0x01 : Byte), 0x02, 0x03, 0x04, 0x05]) (i : Option SectionIx)
    (g : Option FrogIx) (c : ClearScope) : reportOf b i g c = none := by
  unfold reportOf
  split <;> simp_all [← BitVec.toNat_inj]

theorem parseAck_eq_none {p : List Byte} (h : p.length ≠ 2 ∨ p.getD 1 0x00 ∉ [(0x00 : Byte), 0x01]) :
    parseAck p = none := by
  unfold parseAck
  split
  · split <;> simp_all [← BitVec.toNat_inj]
  · rfl

/-- A section or frog field that names nothing `ok` accepts, and is not the code for none. -/
theorem parseIndexField_eq_none {k : Nat} {ok : Fin k → Bool} {b : Byte} (hn : b ≠ 0xFF)
    (h : ∀ i : Fin k, b = BitVec.ofNat 8 i.val → ok i = false) : parseIndexField k ok b = none := by
  unfold parseIndexField indexOf
  rw [if_neg hn]
  split
  next i hi =>
    obtain ⟨hb, hi⟩ := Option.dite_none_right_eq_some.mp hi
    cases hi
    rw [h ⟨b.toNat, hb⟩ (by simp)]
    rfl
  · rfl

/-! ## SKATE events

The events stand five bytes apart, so the byte at an offset of event `k + 1` is the one at that offset of event `k` of the
rest. -/

/-- Event `k` of a SKATE payload without its count has a code outside its codes or a bad digit. -/
def BadEvent (l : List Byte) (k : Nat) : Prop :=
  l.getD (5 * k) 0x00 ∉ [(0x01 : Byte), 0x02, 0x03, 0x04, 0x05, 0x06, 0x07] ∨
    BadDigit (l.getD (3 + 5 * k) 0x00) ∨ BadDigit (l.getD (4 + 5 * k) 0x00)

theorem badEvent_succ {e t1 t0 v1 v0 : Byte} {rest : List Byte} {k : Nat} :
    BadEvent (e :: t1 :: t0 :: v1 :: v0 :: rest) (k + 1) ↔ BadEvent rest k := Iff.rfl

/-- One bad event makes the whole payload bad. -/
theorem parseEvents_eq_none {l : List Byte} {k : Nat} (hk : 5 * k < l.length) (h : BadEvent l k) : parseEvents l = none := by
  induction l using parseEvents.induct generalizing k with
  | case1 => simp at hk
  | case2 e t1 t0 v1 v0 rest edge number more hmore hnumber hedge ih =>
    cases k with
    | zero =>
      obtain h | h := h
      · cases (parseEdge_eq_none h).symm.trans hedge
      · cases (bcdNumber_eq_none h).symm.trans hnumber
    | succ k => cases (ih (by simp at hk; omega) (badEvent_succ.mp h)).symm.trans hmore
  | case3 e t1 t0 v1 v0 rest hnot => simp [parseEvents]
  | case4 l hnil hcons => simp [parseEvents]

/-- The bytes of event `k` of a whole SKATE payload, whose count stands before the events. -/
theorem badEvent_tail {p : List Byte} {k : Nat} : BadEvent p.tail k ↔
    p.getD (1 + 5 * k) 0x00 ∉ [(0x01 : Byte), 0x02, 0x03, 0x04, 0x05, 0x06, 0x07] ∨
      BadDigit (p.getD (4 + 5 * k) 0x00) ∨ BadDigit (p.getD (5 + 5 * k) 0x00) := by
  cases p <;> simp [BadEvent, Nat.add_comm _ (5 * k)]

theorem parseSkate_eq_none {p : List Byte} (h : p.getD 0 0x00 = 0x00 ∨ 12 < (p.getD 0 0x00).toNat ∨
    p.length ≠ 1 + 5 * (p.getD 0 0x00).toNat ∨ ∃ k < (p.getD 0 0x00).toNat,
      p.getD (1 + 5 * k) 0x00 ∉ [(0x01 : Byte), 0x02, 0x03, 0x04, 0x05, 0x06, 0x07] ∨
        BadDigit (p.getD (4 + 5 * k) 0x00) ∨ BadDigit (p.getD (5 + 5 * k) 0x00)) : parseSkate p = none := by
  simp only [← badEvent_tail] at h
  cases p with
  | nil => rfl
  | cons n rest =>
    simp only [List.getD_cons_zero, List.length_cons, List.tail_cons] at h
    refine ite_eq_right_iff.mpr fun ⟨h1, h12, hlen⟩ => ?_
    obtain rfl | h | h | ⟨k, hk, hbad⟩ := h
    · simp at h1
    · omega
    · omega
    · exact parseEvents_eq_none (by omega) hbad

/-! ## VEHICLE reports -/

/-- What disqualifies a VEHICLE payload (R108): its LEN, a digit, a code, or an index that names nothing configured. -/
theorem parseVehicle_eq_none {p : List Byte}
    (h : p.length ≠ 6 ∨ BadDigit (p.getD 0 0x00) ∨ BadDigit (p.getD 1 0x00) ∨
      p.getD 2 0x00 ∉ [(0x01 : Byte), 0x02, 0x03, 0x04, 0x05] ∨
      (p.getD 3 0x00 ≠ 0xFF ∧ ∀ i : SectionIx, p.getD 3 0x00 = BitVec.ofNat 8 i.val → s.sect i = none) ∨
      (p.getD 4 0x00 ≠ 0xFF ∧ ∀ g : FrogIx, p.getD 4 0x00 = BitVec.ofNat 8 g.val → s.frog g = none) ∨
      p.getD 5 0x00 ∉ [(0x01 : Byte), 0x02, 0x03, 0x04]) :
    parseVehicle (fun i => (s.sect i).isSome) (fun g => (s.frog g).isSome) p = none := by
  unfold parseVehicle
  split
  next v1 v0 kind place frog scope =>
    simp only [List.getD_cons_zero, List.getD_cons_succ] at h
    obtain h | h | h | h | ⟨hn, h⟩ | ⟨hn, h⟩ | h := h
    · exact absurd rfl h
    · rw [bcdNumber_eq_none (.inl h)]
    · rw [bcdNumber_eq_none (.inr h)]
    · simp only [reportOf_eq_none h, Option.map_none]
      split <;> rfl
    · have hplace : parseIndexField 48 (fun i => (s.sect i).isSome) place = none :=
        parseIndexField_eq_none hn fun i hi => by simp [h i hi]
      simp [hplace]
    · have hfrog : parseIndexField 64 (fun g => (s.frog g).isSome) frog = none :=
        parseIndexField_eq_none hn fun g hg => by simp [h g hg]
      simp [hfrog]
    · simp [parseScope_eq_none h]
  · rfl

/-! ## Processing that changes nothing -/

/-- A TEST_RESULT for a section outside TESTING is ignored (R62). -/
theorem takeResult_not_testing {i : SectionIx} {x : Sect} (hx : s.sect i = some x) (hn : x.state ≠ .energizing .testing)
    (r : BitVec 16) : takeResult i r s = s := by
  simp [takeResult, hx, hn]

/-- An ACK from the target of no SENT entry is ignored (R137). -/
theorem takeAck_not_sent {a : LineAddr} (h : ∀ e ∈ s.orders, e.target = a → e.state = .queued) (q : Byte) (b : Bool) :
    takeAck a q b s = s := by
  have hn : s.sentTo a = none := by simpa [State.sentTo] using h
  simp [takeAck, hn]

theorem processField_unqualified_sample (hk : f.kind = kindSample) (h : s.sectAt f.src = none ∨ f.payload.length ≠ 32) :
    processField f s = s := by
  rw [processField, if_pos hk]
  obtain h | h := h
  · rw [h]
  · split <;> simp [h]

theorem processField_unqualified_breaker (hk : f.kind = kindBreaker)
    (h : s.sectAt f.src = none ∨ parseBreaker f.payload = none) :
    processField f s = s := by
  obtain h | h := h <;> simp [processField, hk, kindSample, kindBreaker, h]

theorem processField_unqualified_testResult (hk : f.kind = kindTestResult)
    (h : s.sectAt f.src = none ∨ parseTestResult f.payload = none ∨
      ∃ i x, s.sectAt f.src = some i ∧ s.sect i = some x ∧ x.state ≠ .energizing .testing) :
    processField f s = s := by
  obtain h | h | ⟨i, x, hi, hx, hn⟩ := h
  · simp [processField, hk, kindSample, kindBreaker, kindTestResult, h]
  · simp [processField, hk, kindSample, kindBreaker, kindTestResult, h]
  · cases hr : parseTestResult f.payload <;>
      simp [processField, hk, kindSample, kindBreaker, kindTestResult, hi, hr, takeResult_not_testing hx hn]

theorem processField_unqualified_position (hk : f.kind = kindPosition)
    (h : s.frogAt f.src = none ∨ parsePosition f.payload = none) :
    processField f s = s := by
  obtain h | h := h <;> simp [processField, hk, kindSample, kindBreaker, kindTestResult, kindPosition, h]

theorem processField_unqualified_skate (hk : f.kind = kindSkate)
    (h : s.frogAt f.src = none ∨ parseSkate f.payload = none) :
    processField f s = s := by
  obtain h | h := h <;> simp [processField, hk, kindSample, kindBreaker, kindTestResult, kindPosition, kindSkate, h]

theorem processField_unqualified_vehicle (hk : f.kind = kindVehicle)
    (h : parseVehicle (fun i => (s.sect i).isSome) (fun g => (s.frog g).isSome) f.payload = none) :
    processField f s = s := by
  simp [processField, hk, kindSample, kindBreaker, kindTestResult, kindPosition, kindSkate, kindVehicle, h]

theorem processField_unqualified_ack (hk : f.kind = kindAck)
    (h : parseAck f.payload = none ∨ ∀ e ∈ s.orders, e.target = f.src → e.state = .queued) :
    processField f s = s := by
  obtain h | h := h
  · simp [processField, hk, kindSample, kindBreaker, kindTestResult, kindPosition, kindSkate, kindVehicle, kindAck, h]
  · cases hp : parseAck f.payload <;>
      simp [processField, hk, kindSample, kindBreaker, kindTestResult, kindPosition, kindSkate, kindVehicle, kindAck, hp,
        takeAck_not_sent h]

/-- A field device's frame without a valid source, or whose processing changes nothing, is left to the filter alone (R144,
R146). -/
theorem arriveFrame_left (hs : s.supervising) (hk : f.kind ≠ kindMgmt) (hl : f.payload.length ≤ 120)
    (h : f.src ≠ 0x0000 → processField f s = s) : arriveFrame .field f s = fileFrame .field f s := by
  by_cases h0 : f.src = 0x0000
  · exact arriveFrame_field_noSource hs f hk h0 hl
  · rw [arriveFrame_field hs f hk h0 hl, h h0]

/-- A command that is the arrival of such a frame does what the filter does, and nothing else. -/
theorem exec_left {c : Instr} {dest src : LineAddr} {kind seq : Byte} {payload : List Byte} (hs : s.supervising)
    (hl : payload.length ≤ 120) (hc : exec c s = .next (arriveFrame .field (makeFrame dest src kind seq payload) s))
    (hk : kind ≠ kindMgmt) (h : src ≠ 0x0000 → processField (makeFrame dest src kind seq payload) s = s) :
    exec c s = .next (fileFrame .field (makeFrame dest src kind seq payload) s) :=
  hc.trans (congrArg Host.Outcome.next (arriveFrame_left hs hk hl h))

/-! ## The statement settled -/

/-- Settles O28: each way not to qualify is refused by the parser of its kind or leaves the state as it is, so the arrival
is the filter's alone. -/
theorem testResultIgnored : Obligations.TestResultIgnored := by
  refine ⟨fun s dest src seq hi lo hs h => ?ignored, fun s dest src seq payload hs hl =>
    ⟨fun h => ?sample, fun h => ?breaker, fun h => ?testResult, fun h => ?position, fun h => ?skate, fun h => ?vehicle,
      fun h => ?ack⟩⟩
  case ignored =>
    exact exec_left hs (by simp) rfl (by decide) fun _ => processField_unqualified_testResult rfl (h.imp_right .inr)
  all_goals
    refine exec_left hs hl rfl (by decide) fun h0 => ?_
    have hq := h.resolve_left h0
  case sample => exact processField_unqualified_sample rfl hq
  case breaker => exact processField_unqualified_breaker rfl (hq.imp_right parseBreaker_eq_none)
  case testResult => exact processField_unqualified_testResult rfl (hq.imp_right fun hn => .inl (parseTestResult_eq_none hn))
  case position => exact processField_unqualified_position rfl (hq.imp_right parsePosition_eq_none)
  case skate => exact processField_unqualified_skate rfl (hq.imp_right parseSkate_eq_none)
  case vehicle => exact processField_unqualified_vehicle rfl (parseVehicle_eq_none hq)
  case ack => exact processField_unqualified_ack rfl ((or_assoc.mpr hq).imp_left parseAck_eq_none)

end Sys2Proof.Machine
end

section
/-!
PROOFS. The events of a SKATE frame (R67 to R75): the bytes of an event read back, a processed frame's events taken in their
order, what each edge makes of the capture record, and what the conclusion of a contact keeps of its frog. The statement
settled stands at the end.
-/

namespace Sys2Proof.Machine

variable {s : State} {f : FrogIx} {g : Frog} {c : Capture}

/-! ## The bytes of a SKATE frame (R67) -/

/-- The code of an edge (spec/04 section 4.3). -/
def Edge.code : Edge → Byte
  | .entryRise => 0x01
  | .entryFall => 0x02
  | .drawRise => 0x03
  | .drawFall => 0x04
  | .exitRise => 0x05
  | .exitFall => 0x06
  | .tag => 0x07

/-- The five bytes of an event: its code, its tick and its vehicle number. -/
def SkateEvent.bytes (e : SkateEvent) : List Byte := [e.edge.code] ++ beWord e.tick ++ bcdBytes e.number

theorem parseEdge_code (e : Edge) : parseEdge e.code = some e := by cases e <;> rfl

theorem parseEvents_bytes (e : SkateEvent) (rest : List Byte) :
    parseEvents (e.bytes ++ rest) = (parseEvents rest).map (e :: ·) := by
  have hn : bcdNumber (u8 (e.number.val / 1000 * 16 + e.number.val / 100 % 10))
      (u8 (e.number.val / 10 % 10 * 16 + e.number.val % 10)) = some e.number := bcdNumber_bcdBytes e.number
  simp only [SkateEvent.bytes, beWord, be16, bcdBytes, List.cons_append, List.nil_append, parseEvents, parseEdge_code, hn,
    word_of_bytes]
  cases parseEvents rest <;> rfl

theorem parseEvents_flatMap_bytes (events : List SkateEvent) :
    parseEvents (events.flatMap SkateEvent.bytes) = some events := by
  induction events with
  | nil => rfl
  | cons e events ih => rw [List.flatMap_cons, parseEvents_bytes, ih]; rfl

theorem length_flatMap_bytes (events : List SkateEvent) :
    (events.flatMap SkateEvent.bytes).length = 5 * events.length := by
  induction events with
  | nil => rfl
  | cons e events ih =>
    have he : e.bytes.length = 5 := rfl
    rw [List.flatMap_cons, List.length_append, ih, he, List.length_cons]; omega

/-- A payload of 1 to 12 events is read back (R67). -/
theorem parseSkate_bytes {events : List SkateEvent} (h1 : 1 ≤ events.length) (h12 : events.length ≤ 12) :
    parseSkate (u8 events.length :: events.flatMap SkateEvent.bytes) = some events := by
  have hn : (u8 events.length).toNat = events.length := by rw [u8_toNat]; omega
  have hq : 1 ≤ (u8 events.length).toNat ∧ (u8 events.length).toNat ≤ 12 ∧
      (events.flatMap SkateEvent.bytes).length = 5 * (u8 events.length).toNat := by
    rw [hn, length_flatMap_bytes]; exact ⟨h1, h12, rfl⟩
  rw [parseSkate, if_pos hq, parseEvents_flatMap_bytes]

/-- A SKATE frame that qualifies takes its events in their order, and the frame is then left to the filter (R68, R146). -/
theorem exec_skateFrame {dest src : LineAddr} {seq : Byte} {payload : List Byte} {events : List SkateEvent}
    (hs : s.supervising) (hsrc : src ≠ 0x0000) (hf : s.frogAt src = some f) (hl : payload.length ≤ 120)
    (hp : parseSkate payload = some events) :
    exec (.skateFrame dest src seq payload) s
      = .next (fileFrame .field (makeFrame dest src 0x22 seq payload) (events.foldl (skateEvent f) s)) := by
  have hproc : processField (makeFrame dest src 0x22 seq payload) s = events.foldl (skateEvent f) s := by
    simp [processField, makeFrame, kindSample, kindBreaker, kindTestResult, kindPosition, kindSkate, hf, hp, takeSkate]
  exact congrArg Host.Outcome.next
    ((arriveFrame_field hs (makeFrame dest src 0x22 seq payload)
      (show (0x22 : Byte) ≠ kindMgmt by decide) hsrc hl).trans (by rw [hproc]))

/-! ## Changes of the capture record -/

theorem editCapture_eq (hg : s.frog f = some g) {h : Capture → Capture} (hc : h g.capture = c) :
    s.editCapture f h = s.putFrog f (some { g with capture := c }) := by
  simp [State.editCapture, State.editFrog, hg, hc]

/-- A change that leaves the record as it is changes nothing. -/
theorem editCapture_self (hg : s.frog f = some g) {h : Capture → Capture} (he : h g.capture = g.capture) :
    s.editCapture f h = s :=
  (editCapture_eq hg he).trans (frog_self hg)

/-- A contact opened (R69). -/
theorem openContact_eq (hg : s.frog f = some g) (t : Tick) :
    openContact f t s = s.putFrog f (some { g with capture := { g.capture with
      phase := .contact, riseTick := t, drawTotal := 0, bounces := 0, stall := false, tag := none
      drawStart := if g.capture.drawHigh then .at t else .none
      hold := .running (s.partTime + BitVec.ofNat 32 g.params.skateHold) 0 0 } }) := by
  simp [openContact, State.editFrog, hg, Timer.start]

/-- A shoe fall taken in CONTACT (R71). -/
theorem Capture.fallen_eq (now : Time) (settle : Nat) (t : Tick) (c : Capture) :
    c.fallen now settle t = { c with
      phase := .settling, fallTick := t, settle := .running (now + BitVec.ofNat 32 settle) 0 0
      drawTotal := match c.drawStart with
        | .at d => min (c.drawTotal + (t - d).toNat) 65535
        | _ => c.drawTotal
      drawStart := match c.drawStart with
        | .at _ => .pending
        | k => k } := by
  unfold Capture.fallen
  cases c.drawStart <;> rfl

theorem Capture.drawRise_high (h : c.drawHigh = true) (t : Tick) : c.drawRise t = c := if_pos h

/-- A DRAW_RISE with the draw low (R72). -/
theorem Capture.drawRise_low (h : c.drawHigh = false) (t : Tick) :
    c.drawRise t = { c with
      drawHigh := true
      drawStart := match c.phase with
        | .contact => .at t
        | .settling => .pending
        | .idle => c.drawStart } := by
  unfold Capture.drawRise
  rw [if_neg (by rw [h]; decide)]
  cases c.phase <;> rfl

theorem Capture.drawFall_low (h : c.drawHigh = false) (t : Tick) : c.drawFall t = c := by simp [Capture.drawFall, h]

/-- A DRAW_FALL with the draw high (R73). -/
theorem Capture.drawFall_high (h : c.drawHigh = true) (t : Tick) :
    c.drawFall t = { c with
      drawHigh := false
      drawTotal := match c.phase, c.drawStart with
        | .contact, .at d => min (c.drawTotal + (t - d).toNat) 65535
        | _, _ => c.drawTotal
      drawStart := match c.phase with
        | .idle => c.drawStart
        | _ => .none } := by
  unfold Capture.drawFall
  rw [if_pos h]
  cases c.phase with
  | contact => cases c.drawStart <;> rfl
  | settling => rfl
  | idle => rfl

theorem Capture.tagged_idle (h : c.phase = .idle) (n : VehicleNumber) : c.tagged n = c := by simp [Capture.tagged, h]

/-- A TAG taken in CONTACT or SETTLING (R74). -/
theorem Capture.tagged_of_ne_idle (h : c.phase ≠ .idle) (n : VehicleNumber) : c.tagged n = { c with tag := some n } := by
  unfold Capture.tagged
  cases hp : c.phase with
  | idle => exact absurd hp h
  | contact => rfl
  | settling => rfl

/-! ## What a conclusion keeps (R81) -/

/-- Frog `f` is still configured in `t`, with the parameters and the capture record it had as `g`. -/
def CaptureKept (f : FrogIx) (g : Frog) (t : State) : Prop :=
  ∃ h, t.frog f = some h ∧ h.params = g.params ∧ h.capture = g.capture

theorem captureKept_self (hg : s.frog f = some g) : CaptureKept f g s := ⟨g, hg, rfl, rfl⟩

theorem CaptureKept.noteFrog {w : FrogWork} (h : CaptureKept f g w.1) : CaptureKept f g (noteFrog f w) := by
  obtain ⟨k, hk, hp, hc⟩ := h
  exact ⟨k, by rw [frog_noteFrog, hk], hp, hc⟩

theorem captureKept_addBlock (hg : s.frog f = some g) (r : BlockReason) : CaptureKept f g (addBlock f r s).1 := by
  obtain ⟨w, hw, -⟩ := addBlock_spec r hg
  exact ⟨_, hw, rfl, rfl⟩

theorem captureKept_joinQueue (hg : s.frog f = some g) (k : RequestKind) (r : Route) :
    CaptureKept f g (joinQueue f k r s).1 := by
  have hj : (s.putFrog f (some { g with queue := g.queue ++ [{ kind := k, target := r, phase := .waiting }] })).frog f
      = some { g with queue := g.queue ++ [{ kind := k, target := r, phase := .waiting }] } := by simp
  unfold joinQueue; rw [hg]; dsimp only
  split
  · obtain ⟨h, hf, hp, -, -, hc⟩ := (checkHead_kept hj).self
    exact ⟨h, hf, hp, hc⟩
  · exact ⟨_, hj, rfl, rfl⟩

theorem captureKept_takePassage (hg : s.frog f = some g) (r : Route) (tag : Option VehicleNumber) (w : Tick) :
    CaptureKept f g (takePassage f r tag w s).1 := by
  unfold takePassage; rw [hg]; dsimp only
  split
  · exact captureKept_joinQueue hg _ r
  · exact captureKept_addBlock hg .overflow

theorem captureKept_handToFrog (hg : s.frog f = some g) (j : Judgement) (tag : Option VehicleNumber) (w : Tick) :
    CaptureKept f g (handToFrog f j tag w s) := by
  cases j with
  | passage b r => exact (captureKept_takePassage hg r tag w).noteFrog
  | stall => exact (captureKept_addBlock hg .stall).noteFrog
  | noise => exact captureKept_self hg

theorem obtainVehicle_frogs (n : VehicleNumber) : (obtainVehicle n s).1.frogs = s.frogs := by
  unfold obtainVehicle
  split_ifs
  · rfl
  · rfl
  · cases evictee s.vehicles with
    | none => exact raise_frogs _
    | some v => rfl

/-- The vehicle table's work on a bounce touches no frog (R119). -/
theorem bounceVehicle_frogs (n : VehicleNumber) (f : FrogIx) : (bounceVehicle n f s).frogs = s.frogs := by
  unfold bounceVehicle
  dsimp only
  split
  · unfold appendFault
    rw [raise_frogs]
    exact obtainVehicle_frogs n
  · exact obtainVehicle_frogs n

theorem handBounce_frogs (f : FrogIx) (j : Judgement) (tag : Option VehicleNumber) :
    (handBounce f j tag s).frogs = s.frogs := by
  unfold handBounce
  split
  · exact bounceVehicle_frogs _ f
  · rfl

/-- A conclusion replaces the capture record by the concluded one and keeps the frog's parameters (R81). -/
theorem conclude_frog (hg : s.frog f = some g) :
    ∃ h, (conclude f s).frog f = some h ∧ h.params = g.params ∧ h.capture = g.capture.concluded g.params := by
  have hb : (handBounce f (g.capture.judgement g.params) g.capture.tag s).frog f = some g := by
    rw [frog_congr (handBounce_frogs f _ _), hg]
  obtain ⟨h, hf, hp, hc⟩ :=
    captureKept_handToFrog hb (g.capture.judgement g.params) g.capture.tag g.capture.width
  unfold conclude; rw [hg]; dsimp only
  rw [editCapture_eq hf (congrArg (Capture.concluded · g.params) hc)]
  exact ⟨_, State.frog_putFrog_same .., hp, rfl⟩

theorem conclude_partTime (f : FrogIx) (s : State) : (conclude f s).partTime = s.partTime :=
  (congrArg State.partTime (besideVehicles_conclude s f) :)

/-! ## The entry shoe (R69 to R71) -/

theorem entryRise_idle (hg : s.frog f = some g) (hp : g.capture.phase = .idle) (t : Tick) :
    entryRise f t s = openContact f t s := by simp [entryRise, hg, hp]

theorem entryRise_contact (hg : s.frog f = some g) (hp : g.capture.phase = .contact) (t : Tick) :
    entryRise f t s = s := by simp [entryRise, hg, hp]

/-- A rise within BOUNCE_GAP of the fall is merged (R70). -/
theorem entryRise_merged (hg : s.frog f = some g) (hp : g.capture.phase = .settling) {t : Tick}
    (ht : (t - g.capture.fallTick).toNat ≤ g.params.bounceGap) :
    entryRise f t s = s.putFrog f (some { g with capture := g.capture.merged t }) := by
  simp only [entryRise, hg, hp, ht, if_true]
  exact editCapture_eq hg rfl

/-- A rise beyond BOUNCE_GAP concludes the contact and opens a new one (R70). -/
theorem entryRise_beyond (hg : s.frog f = some g) (hp : g.capture.phase = .settling) {t : Tick}
    (ht : g.params.bounceGap < (t - g.capture.fallTick).toNat) :
    entryRise f t s = openContact f t (conclude f s) := by
  simp only [entryRise, hg, hp, Nat.not_le.mpr ht, if_false]

theorem entryFall_contact (hg : s.frog f = some g) (hp : g.capture.phase = .contact) {t : Tick}
    (hc : g.capture.fallen s.partTime s.globals.settle t = c) :
    entryFall f t s = s.putFrog f (some { g with capture := c }) :=
  editCapture_eq hg ((if_pos hp).trans hc)

/-- A fall in IDLE or SETTLING is ignored (R71). -/
theorem entryFall_of_ne_contact (hg : s.frog f = some g) (hp : g.capture.phase ≠ .contact) (t : Tick) :
    entryFall f t s = s :=
  editCapture_self hg (if_neg hp)

/-! ## The statement settled -/

/-- Settles O35: the payload of the events is read back, and each edge is one change of the capture record; the rise beyond
BOUNCE_GAP opens its contact on the frog the conclusion left, at the same part time. -/
theorem skateEdges : Obligations.SkateEdges := by
  refine ⟨fun s f dest src seq events hs hsrc hf h1 h12 => ?frame, fun s f g tick n hg =>
    ⟨fun hp => ?riseIdle, fun hp => ?riseContact, fun hp ht => ?riseMerged, fun hp ht => ?riseBeyond,
      fun hp => ?fallContact, fun hp => ?fallIgnored, fun hd => ?drawRiseHigh, fun hd => ?drawRiseLow,
      fun hd => ?drawFallLow, fun hd => ?drawFallHigh, ?exitRise, fun hp => ?tagIdle, fun hp => ?tag⟩⟩
  case frame =>
    have hl : (u8 events.length :: events.flatMap SkateEvent.bytes).length ≤ 120 := by
      rw [List.length_cons, length_flatMap_bytes]; omega
    exact exec_skateFrame hs hsrc hf hl (parseSkate_bytes h1 h12)
  case riseIdle => exact (entryRise_idle hg hp tick).trans (openContact_eq hg tick)
  case riseContact => exact entryRise_contact hg hp tick
  case riseMerged => exact entryRise_merged hg hp ht
  case riseBeyond =>
    obtain ⟨h, hf, hparams, hcapture⟩ := conclude_frog hg
    have hopen := openContact_eq hf tick
    rw [conclude_partTime, congrArg FrogParams.skateHold hparams] at hopen
    exact ⟨h, hf, hparams, by rw [hcapture]; rfl, by rw [hcapture]; rfl, (entryRise_beyond hg hp ht).trans hopen⟩
  case fallContact => exact entryFall_contact hg hp (Capture.fallen_eq ..)
  case fallIgnored => exact entryFall_of_ne_contact hg hp tick
  case drawRiseHigh => exact editCapture_self hg (Capture.drawRise_high hd tick)
  case drawRiseLow => exact editCapture_eq hg (Capture.drawRise_low hd tick)
  case drawFallLow => exact editCapture_self hg (Capture.drawFall_low hd tick)
  case drawFallHigh => exact editCapture_eq hg (Capture.drawFall_high hd tick)
  case exitRise => rfl
  case tagIdle => exact editCapture_self hg (Capture.tagged_idle hp n)
  case tag => exact editCapture_eq hg (Capture.tagged_of_ne_idle hp n)

end Sys2Proof.Machine
end

section
/-!
PROOFS. Registration in the field order list (R129 to R132): the room that an order needs, the four answers of `register`, and
the law of the list. The statement settled stands at the end.
-/

namespace Sys2Proof.Machine

variable {l : List Order} {a : LineAddr} {k : OrderKind} {e : Order}

/-! ## Urgency and room (R129) -/

theorem OrderKind.urgent_iff (k : OrderKind) : k.urgent = true ↔ k = .trip ∨ k = .opening := by
  cases k <;> simp [OrderKind.urgent]

theorem OrderKind.urgent_eq_decide (k : OrderKind) : k.urgent = (decide (k = .trip) || decide (k = .opening)) := by
  cases k <;> rfl

/-- One free entry of 32 for an URGENT order, five for a NORMAL one. -/
theorem hasRoom_iff (l : List Order) (k : OrderKind) :
    hasRoom l k = true ↔ (k = .trip ∨ k = .opening) ∧ l.length ≤ 31 ∨ l.length ≤ 27 := by
  rw [← k.urgent_iff, hasRoom, decide_eq_true_iff]
  cases k.urgent
  · simp [Config.orderReserve, Config.orderCapacity]; omega
  · simp [Config.orderCapacity]; omega

theorem hasRoom_length_lt (h : hasRoom l k = true) : l.length < 32 := by
  rw [hasRoom_iff] at h; omega

/-! ## A list with one entry for a target -/

theorem eq_of_target_eq (hl : (l.map Order.target).Nodup) {e' : Order} (he : e ∈ l) (he' : e' ∈ l)
    (h : e.target = e'.target) : e = e' :=
  List.inj_on_of_nodup_map hl he he' h

theorem find?_target (hl : (l.map Order.target).Nodup) (he : e ∈ l) (ha : e.target = a) :
    l.find? (fun x => decide (x.target = a)) = some e := by
  obtain ⟨x, hx⟩ : ∃ x, l.find? (fun x => decide (x.target = a)) = some x :=
    Option.isSome_iff_exists.mp (List.find?_isSome.mpr ⟨e, he, by simpa using ha⟩)
  have hxa : x.target = a := by simpa using List.find?_some hx
  rw [hx, eq_of_target_eq hl (List.mem_of_find?_eq_some hx) he (hxa.trans ha.symm)]

/-- To remove the entries with a target is to erase its one entry. -/
theorem filter_target_eq_erase (hl : (l.map Order.target).Nodup) (he : e ∈ l) (ha : e.target = a) :
    l.filter (fun x => decide (x.target ≠ a)) = l.erase e := by
  rw [hl.of_map.erase_eq_filter]
  refine List.filter_congr fun x hx => ?_
  have heq : x.target = a ↔ x = e := ⟨fun h => eq_of_target_eq hl hx he (h.trans ha.symm), fun h => h ▸ ha⟩
  rw [Bool.eq_iff_iff]; simp [heq]

/-! ## The answers of a registration (R129 to R132) -/

/-- With no live entry for the target, room alone decides (R129). -/
theorem register_of_forall_ne (h : ∀ e ∈ l, e.target ≠ a) : register l a k = registerFresh l a k := by
  have hn : l.find? (fun e => decide (e.target = a)) = none := by simpa using h
  simp [register, hn]

theorem register_of_mem (hl : (l.map Order.target).Nodup) (he : e ∈ l) (ha : e.target = a) :
    register l a k = if e.kind = k then (l, .merged)
      else if k.urgent && !e.kind.urgent then registerFresh (l.erase e) a k else (l, .conflict) := by
  simp only [register, find?_target hl he ha, filter_target_eq_erase hl he ha]

/-- A superseded entry leaves the room that an URGENT order needs, in a full list too (R131). -/
theorem registerFresh_erase (hlen : l.length ≤ 32) (he : e ∈ l) (hk : k = .trip ∨ k = .opening) :
    registerFresh (l.erase e) a k = (l.erase e ++ [{ target := a, kind := k, state := .queued }], .taken) := by
  have hroom : hasRoom (l.erase e) k = true :=
    (hasRoom_iff ..).mpr (.inl ⟨hk, by rw [List.length_erase_of_mem he]; omega⟩)
  exact if_pos hroom

/-! ## The law of the list (R129) -/

/-- The NORMAL entries, which may not take the reserve of four (R129). -/
def normalOrders (l : List Order) : List Order := l.filter fun e => !e.kind.urgent

theorem normalOrders_eq (l : List Order) :
    normalOrders l = l.filter fun e => !(decide (e.kind = .trip) || decide (e.kind = .opening)) := by
  simp only [normalOrders, OrderKind.urgent_eq_decide]

theorem normalOrders_append (l : List Order) (e : Order) :
    normalOrders (l ++ [e]) = normalOrders l ++ if e.kind.urgent then [] else [e] := by
  cases h : e.kind.urgent <;> simp [normalOrders, h]

/-- What a registration makes of the list: some of its entries are kept, and no entry is added, or one for a target that the
kept entries do not name and for which they leave room. -/
theorem register_kept (l : List Order) (a : LineAddr) (k : OrderKind) :
    ∃ m, m.Sublist l ∧ ((register l a k).1 = m ∨
      (∀ e ∈ m, e.target ≠ a) ∧ hasRoom m k = true ∧
        (register l a k).1 = m ++ [{ target := a, kind := k, state := .queued }]) := by
  obtain ⟨h, -⟩ | ⟨-, hroom, hfree, h⟩ | ⟨-, -, hroom, -, h⟩ | ⟨-, -, h⟩ := register_cases l a k
  · exact ⟨l, .refl l, .inl h⟩
  · exact ⟨l, .refl l, .inr ⟨hfree, hroom, h⟩⟩
  · exact ⟨_, List.filter_sublist, .inr ⟨by simp, hroom, h⟩⟩
  · exact ⟨_, List.filter_sublist, .inl h⟩

theorem register_targets_nodup (a : LineAddr) (k : OrderKind) (hl : (l.map Order.target).Nodup) :
    ((register l a k).1.map Order.target).Nodup := by
  obtain ⟨m, hm, h | ⟨hfree, -, h⟩⟩ := register_kept l a k
  · rw [h]; exact hl.sublist (hm.map _)
  · rw [h, List.map_append, List.map_singleton, ← List.concat_eq_append]
    exact (hl.sublist (hm.map _)).concat (by simpa using hfree)

theorem register_length_le (a : LineAddr) (k : OrderKind) (hlen : l.length ≤ 32) : (register l a k).1.length ≤ 32 := by
  obtain ⟨m, hm, h | ⟨-, hroom, h⟩⟩ := register_kept l a k
  · rw [h]; exact hm.length_le.trans hlen
  · rw [h, List.length_append, List.length_singleton]; exact hasRoom_length_lt hroom

/-- A NORMAL order is taken only where at most 27 entries of any kind stand, so the reserve is kept. -/
theorem register_normalOrders_le (a : LineAddr) (k : OrderKind) (hn : (normalOrders l).length ≤ 28) :
    (normalOrders (register l a k).1).length ≤ 28 := by
  obtain ⟨m, hm, hreg⟩ := register_kept l a k
  have hle : (normalOrders m).length ≤ 28 := (hm.filter _).length_le.trans hn
  obtain h | ⟨-, hroom, h⟩ := hreg
  · rwa [h]
  · rw [h, normalOrders_append]
    by_cases hk : k.urgent = true
    · simpa [hk] using hle
    · have hlen : m.length ≤ 27 := by
        rw [hasRoom_iff, ← k.urgent_iff] at hroom; tauto
      have hsub : (normalOrders m).length ≤ m.length := List.length_filter_le ..
      simp only [hk, if_false, Bool.false_eq_true, List.length_append, List.length_singleton]; omega

/-! ## The statement settled -/

/-- Settles O44: each answer by the entry with the target, if there is one; the law of the list from the entries that a
registration keeps. -/
theorem registration : Obligations.Registration := by
  intro l a k hl hlen normals
  have hnormals : ∀ m, normals m = (normalOrders m).length := fun m => by rw [normalOrders_eq]
  refine ⟨fun hfree => ?room, fun e he ha => ⟨fun hk => ?merge, fun hk ht ho => ?supersession, fun hk hu => ?conflict⟩,
    register_targets_nodup a k hl, register_length_le a k hlen, ?reserve⟩
  case room => simp only [register_of_forall_ne hfree, registerFresh, hasRoom_iff]
  case merge => rw [register_of_mem hl he ha, if_pos hk]
  case supersession =>
    have hne : e.kind ≠ k := by rintro rfl; exact hk.elim ht ho
    have hu : (k.urgent && !e.kind.urgent) = true := by
      simp [OrderKind.urgent_eq_decide, hk, ht, ho]
    rw [register_of_mem hl he ha, if_neg hne, if_pos hu, registerFresh_erase hlen he hk]
  case conflict =>
    have hu' : ¬ (k.urgent && !e.kind.urgent) = true := by
      simpa [OrderKind.urgent_eq_decide] using hu
    rw [register_of_mem hl he ha, if_neg hk, if_neg hu']
  case reserve =>
    rw [hnormals, hnormals]
    exact register_normalOrders_le a k

end Sys2Proof.Machine
end

section
/-!
PROOFS. STATUS and LOAD_FILTER (R161, R164, R170): what a taken request of each answers, the codes of a filter rule's fields,
and a rule not in use. The statements settled stand at the end.
-/

namespace Sys2Proof.Machine

variable {s : State} {a : List Byte}

/-! ## The status block (R155, R159, R164) -/

theorem sectionsConfigured_eq_countP (s : State) :
    s.sectionsConfigured = (List.finRange 48).countP fun i => (s.sect i).isSome :=
  List.countP_eq_length_filter.symm

theorem frogsConfigured_eq_countP (s : State) :
    s.frogsConfigured = (List.finRange 64).countP fun f => (s.frog f).isSome :=
  List.countP_eq_length_filter.symm

theorem exec_status_taken {src : LineAddr} (h : s.takes src []) (seq : Byte) (tag : BitVec 16) :
    exec (.status src seq tag []) s = .next ((clearFlags s).answered src 0x01 tag .ok (statusData s)) :=
  congrArg Host.Outcome.next (arriveRequest_taken h seq 0x01 tag)

theorem exec_status_full {src : LineAddr} (hrun : s.activity = .running) (hsrc : src ≠ 0x0000)
    (hfull : 4 ≤ s.replies.length) (seq : Byte) (tag : BitVec 16) : exec (.status src seq tag []) s = .next s :=
  congrArg Host.Outcome.next (arriveRequest_full hrun hsrc (by simp) hfull seq 0x01 tag)

/-! ## The codes of a rule's fields (R170) -/

theorem argWord_toNat (a : List Byte) (k : Nat) : (argWord a k).toNat = argU16 a k := word_toNat ..

theorem indexOf_of_val_eq {k n : Nat} (i : Fin k) (h : n = i.val) : indexOf k n = some i := by
  subst h; simp [indexOf]

theorem lt_of_indexOf_eq_some {k n : Nat} {i : Fin k} (h : indexOf k n = some i) : n < k :=
  (Option.dite_none_right_eq_some.mp h).1

theorem twoCode_byte {b : Byte} (h : b.toNat ≤ 1) : twoCode false true b.toNat = some (decide (b = 0x01)) := by
  obtain h0 | h1 : b.toNat = (0x00 : Byte).toNat ∨ b.toNat = (0x01 : Byte).toNat := by simp; omega
  · rw [BitVec.toNat_inj.mp h0]; rfl
  · rw [BitVec.toNat_inj.mp h1]; rfl

theorem le_of_twoCode_eq_some {α : Type} {zero one x : α} {n : Nat} (h : twoCode zero one n = some x) : n ≤ 1 := by
  unfold twoCode at h
  split at h
  · omega
  · omega
  · cases h

theorem le_of_parseRulePort_eq_some {n : Nat} {p : RulePort} (h : parseRulePort n = some p) : n ≤ 2 := by
  unfold parseRulePort at h
  split at h
  · omega
  · omega
  · omega
  · cases h

theorem parseRulePort_byte {b : Byte} {p : RulePort}
    (h : b = 0x00 ∧ p = .uplink ∨ b = 0x01 ∧ p = .field ∨ b = 0x02 ∧ p = .either) : parseRulePort b.toNat = some p := by
  obtain ⟨rfl, rfl⟩ | ⟨rfl, rfl⟩ | ⟨rfl, rfl⟩ := h <;> rfl

theorem parseRuleKind_word {b3 b4 : Byte} (h : b3 = 0x00 ∨ b3 = 0xFF ∧ b4 = 0xFF) :
    parseRuleKind (word b3 b4).toNat = some (if b3 = 0x00 then some b4 else none) := by
  obtain rfl | ⟨rfl, rfl⟩ := h
  · have hword : (word 0x00 b4).toNat = b4.toNat := by simp [word_toNat]
    rw [hword, parseRuleKind, if_pos (by omega), u8_byte, if_pos rfl]
  · rfl

theorem le_or_eq_of_parseRuleKind_eq_some {n : Nat} {k : Option Byte} (h : parseRuleKind n = some k) :
    n ≤ 0xFF ∨ n = 0xFFFF := by
  unfold parseRuleKind at h
  split at h
  · exact .inl ‹_›
  · split at h
    · exact .inr ‹_›
    · cases h

theorem word_outside_ruleKinds {b3 b4 : Byte} (h : b3 ≠ 0x00 ∧ ¬ (b3 = 0xFF ∧ b4 = 0xFF)) :
    0xFF < (word b3 b4).toNat ∧ (word b3 b4).toNat ≠ 0xFFFF := by
  rw [word_toNat]; bv_omega

/-! ## LOAD_FILTER's arguments as a whole (R170) -/

/-- A field outside its codes, or the source range the wrong way round, makes the whole list bad. -/
theorem parseLoadFilter_eq_none (h : 31 < argU8 a 0 ∨ 1 < argU8 a 1 ∨ 2 < argU8 a 2 ∨
    (0xFF < (argWord a 3).toNat ∧ (argWord a 3).toNat ≠ 0xFFFF) ∨ (argWord a 7).toNat < (argWord a 5).toNat ∨
    1 < argU8 a 9) : parseLoadFilter a = none := by
  simp only [argWord_toNat] at h
  unfold parseLoadFilter
  split
  next hindex huse hport hkind hhold =>
    have := lt_of_indexOf_eq_some hindex
    have := le_of_twoCode_eq_some huse
    have := le_of_parseRulePort_eq_some hport
    have := le_or_eq_of_parseRuleKind_eq_some hkind
    have := le_of_twoCode_eq_some hhold
    exact if_neg (by omega)
  · rfl

theorem parseLoadFilter_eq_some {r : RuleIx} {inUse hold : Bool} {port : RulePort} {kind : Option Byte}
    (hindex : indexOf 32 (argU8 a 0) = some r) (huse : twoCode false true (argU8 a 1) = some inUse)
    (hport : parseRulePort (argU8 a 2) = some port) (hkind : parseRuleKind (argWord a 3).toNat = some kind)
    (hrange : (argWord a 5).toNat ≤ (argWord a 7).toNat) (hhold : twoCode false true (argU8 a 9) = some hold) :
    parseLoadFilter a = some (r, { inUse, port, kind, srcLow := argWord a 5, srcHigh := argWord a 7, hold }) := by
  simp only [argWord_toNat] at hkind hrange
  simp only [parseLoadFilter, hindex, huse, hport, hkind, hhold, if_pos hrange]

/-! ## LOAD_FILTER taken, and its rule not in use (R149, R170) -/

theorem exec_loadFilter_taken {src : LineAddr} (h : s.takes src a) (seq : Byte) (tag : BitVec 16) :
    exec (.loadFilter src seq tag a) s = .next (queueReply src 0x14 tag (requestLoadFilter a s)) :=
  congrArg Host.Outcome.next (arriveRequest_taken h seq 0x14 tag)

theorem exec_loadFilter_range {src : LineAddr} (h : s.takes src a) (hparse : parseLoadFilter a = none) (seq : Byte)
    (tag : BitVec 16) : exec (.loadFilter src seq tag a) s = .next (s.answered src 0x14 tag .range []) := by
  have hrequest : requestLoadFilter a s = refuse .range s := by simp [requestLoadFilter, hparse]
  rw [exec_loadFilter_taken h, hrequest]
  rfl

theorem exec_loadFilter_ok {src : LineAddr} (h : s.takes src a) (hlen : a.length = 10) {r : RuleIx} {rule : FilterRule}
    (hparse : parseLoadFilter a = some (r, rule)) (seq : Byte) (tag : BitVec 16) :
    exec (.loadFilter src seq tag a) s =
      .next ((s.setFilter (s.filter.set r.val rule r.isLt)).answered src 0x14 tag .ok []) := by
  have hrequest : requestLoadFilter a s = done (s.setFilter (s.filter.set r.val rule r.isLt)) := by
    simp [requestLoadFilter, hlen, hparse]
  rw [exec_loadFilter_taken h, hrequest]
  rfl

/-- `inUse` guards every match (R149). -/
theorem FilterRule.accepts_of_not_inUse {rule : FilterRule} (h : rule.inUse = false) (p : PortId) (f : Frame) :
    rule.accepts p f = false := by
  simp [FilterRule.accepts, h]

/-! ## The statements settled -/

/-- Settles O49: a taken STATUS answers with the block of the state before it over the state with the flags cleared; the
counts of the block are the configured sections and frogs. -/
theorem statusReportsAndClears : Obligations.StatusReportsAndClears := by
  refine fun s src seq tag => ⟨fun hrun hsrc hfull => exec_status_full hrun hsrc hfull seq tag, fun h => ?_⟩
  rw [exec_status_taken h, statusData, sectionsConfigured_eq_countP, frogsConfigured_eq_countP]
  rfl

/-- Settles O54: a list with a field outside its codes parses to no rule, a list within them to the rule with those fields,
and `inUse` guards every match. -/
theorem loadFilter : Obligations.LoadFilter := by
  intro s src seq tag b0 b1 b2 b3 b4 l1 l0 h1 h0 b9 htakes low high run
  refine ⟨fun hbad => ?refused, fun r port hr huse hport hkind hrange hhold => ?loaded,
    fun rule p f hunused => FilterRule.accepts_of_not_inUse hunused p f⟩
  case refused =>
    refine exec_loadFilter_range htakes (parseLoadFilter_eq_none ?_) seq tag
    exact hbad.imp_right (.imp_right (.imp_right (.imp_left word_outside_ruleKinds)))
  case loaded =>
    exact exec_loadFilter_ok htakes rfl (parseLoadFilter_eq_some (indexOf_of_val_eq r hr) (twoCode_byte huse)
      (parseRulePort_byte hport) (parseRuleKind_word hkind) hrange (twoCode_byte hhold)) seq tag

end Sys2Proof.Machine
end

section
/-!
PROOFS. The machine as a whole: the step with a command waiting and with none, the reset state and its laws (spec/11 section
11.2), and the bypass relay (R174). The statements settled stand at the end.
-/

namespace Sys2Proof.Machine

/-! ## The reset state (R176, R177) -/

theorem sect_reset (i : SectionIx) : State.reset.sect i = none := by
  simp [State.sect, State.reset, Vector.get]

theorem frog_reset (f : FrogIx) : State.reset.frog f = none := by
  simp [State.frog, State.reset, Vector.get]

theorem unit_reset (u : UnitIx) : State.reset.unit u = TestUnit.starting := by
  simp [State.unit, State.reset, Vector.get]

/-- With no section configured, none is in a substate of ENERGIZING. -/
theorem not_inTestState_of_none {s : State} {i : SectionIx} (h : s.sect i = none) (sub : Substate) (u : UnitIx) :
    ¬ inTestState s i sub u := by
  rintro ⟨x, hx, -⟩
  simp [h] at hx

/-- A unit at its starting values is in order where no section is in TEST_WAIT or TESTING. -/
theorem unitOk_starting {s : State} {u : UnitIx} (hu : s.unit u = TestUnit.starting)
    (h : ∀ i sub, ¬ inTestState s i sub u) : UnitOk s u where
  holder i := by simp [hu, TestUnit.starting, h]
  waiting i := by simp [hu, TestUnit.starting, h]
  free _ := by simp [hu, TestUnit.starting]

/-! ## A millisecond (section 4.2) -/

theorem tick_running {s : State} (h : s.activity = .running) :
    tick s = (s.setPartTime (s.partTime + 1)).setVehicles (s.vehicles.map Vehicle.older) := by
  simp only [tick, h]

theorem tick_resetting {s : State} (h : s.activity = .resetting) : tick s = s := by
  simp only [tick, h]

theorem tick_holding {s : State} {n : Nat} (h : s.activity = .holding n) :
    tick s = s.setActivity (.holding (n - 1)) := by
  simp only [tick, h]

/-! ## The statements settled -/

/-- Settles O1: the queue is not empty, and `step` takes its front. -/
theorem stepRunsTheFrontCommand : Obligations.StepRunsTheFrontCommand := fun _ _ _ => rfl

/-- Settles O2: an empty queue is a tick, by the part's activity. -/
theorem stepWithNoCommandIsAMillisecond : Obligations.StepWithNoCommandIsAMillisecond := by
  intro s hp
  have htick : step s = .next (tick s) := by simp [step, hp]
  rw [htick]
  exact ⟨fun h => by rw [tick_running h]; rfl, fun h => by rw [tick_resetting h], fun n h => by rw [tick_holding h]; rfl⟩

/-- Settles O4. -/
theorem resetState : Obligations.ResetState := by
  refine ⟨sect_reset, frog_reset, unit_reset, fun r => ?_, rfl, rfl, rfl, rfl, rfl, rfl, rfl, rfl, rfl, rfl, rfl, rfl, rfl,
    rfl⟩
  simp [State.reset, Vector.get, FilterRule.powerOn]

/-- Settles O5: every table and queue is empty, and no section is configured. -/
theorem resetMeetsTheLaws : Obligations.ResetMeetsTheLaws where
  left i x hx := by simp [sect_reset] at hx
  right := by
    refine ⟨fun _ u => unitOk_starting (unit_reset u) fun i sub => not_inTestState_of_none (sect_reset i) sub u, fun f g hg => ?frogs,
      ?addresses, ?vehicles, fun _ v hv => ?dewire, ?orders, ?queues, fun _ _ => ⟨fun i x hx => ?_, fun f g hg => ?_, rfl, rfl⟩⟩
    case frogs => simp [frog_reset] at hg
    case addresses => constructor <;> simp [sect_reset, frog_reset]
    case vehicles => constructor <;> simp [State.reset]
    case dewire => simp [State.reset] at hv
    case orders => constructor <;> simp [State.reset]
    case queues => constructor <;> simp [State.reset]
    · simp [sect_reset] at hx
    · simp [frog_reset] at hg

/-- Settles O21: nothing but a part that runs checks, classifies or sends. -/
theorem relayCarriesFramesUnseen : Obligations.RelayCarriesFramesUnseen := by
  intro s hs
  have hrun : s.isRunning = false := by simpa [State.isRunning] using hs
  exact ⟨fun p bytes => by simp [exec, execFrameArrival, arriveBytes, hrun, putLine],
    by simp [exec, execFieldFrameStart, startField, hrun], by simp [exec, execUplinkFrameStart, startUplink, hrun]⟩

end Sys2Proof.Machine
end

section
/-!
PROOFS. What the work of an event writes, said once for all the laws of the part: every operation of the sections, the frogs,
the skates, the vehicle table and the order list is a run of single writes (`Writes`), each of which keeps the law of the
record it writes.
-/

namespace Sys2Proof.Machine

variable {s t u : State}

/-! ## The laws of a record that a single write keeps -/

/-- A section's record may be replaced: the parameters are kept, and so is the law of a section. -/
structure SectWrite (x y : Sect) : Prop where
  params : y.params = x.params
  ok : SectionOk x → SectionOk y

/-- A frog's record may be replaced: the parameters and the law of a frog are kept, and DEWIRE leaves the block set only where no
vehicle is dewired at the frog. -/
structure FrogWrite (s : State) (f : FrogIx) (g h : Frog) : Prop where
  params : h.params = g.params
  ok : FrogOk g → FrogOk h
  dewire : g.blocks.dewire = true → h.blocks.dewire = true ∨ ∀ v ∈ s.vehicles, v.dewire ≠ some (some f)

/-- The law of the vehicle table by itself (R106, R117). -/
structure TableOk (l : List Vehicle) : Prop where
  room : l.length ≤ Config.vehicleCapacity
  numbers : (l.map Vehicle.number).Nodup
  records : ∀ v ∈ l, v.faults.length ≤ Config.faultCapacity

/-- The vehicle table may be replaced: its law is kept, and every section and frog it names was named before or is configured, the
frog with DEWIRE in its block set. -/
structure VehiclesWrite (s : State) (l : List Vehicle) : Prop where
  table : TableOk s.vehicles → TableOk l
  places : AddressesOk s → ∀ v ∈ l, ∀ i, v.located = some i →
    (s.sect i).isSome = true ∨ ∃ w ∈ s.vehicles, w.located = some i
  dewires : ∀ v ∈ l, ∀ f, v.dewire = some (some f) →
    (∃ g, s.frog f = some g ∧ g.blocks.dewire = true) ∨ ∃ w ∈ s.vehicles, w.dewire = some (some f)

/-- One write of an event's work. -/
inductive Write : State → State → Prop
  | notice (s : State) (b : NoticeBody) : Write s (raise b s)
  | registered (s : State) (a : LineAddr) (k : OrderKind) : Write s (s.setOrders (register s.orders a k).1)
  | freed (s : State) (a : LineAddr) : Write s (s.setOrders (s.orders.filter fun e => decide (e.target ≠ a)))
  | sect {s : State} {i : SectionIx} {x y : Sect} (hx : s.sect i = some x) (h : SectWrite x y) :
      Write s (s.putSect i (some y))
  | unit (s : State) (u : UnitIx) (x : TestUnit) : Write s (s.putUnit u x)
  | frog {s : State} {f : FrogIx} {g h : Frog} (hg : s.frog f = some g) (hw : FrogWrite s f g h) :
      Write s (s.putFrog f (some h))
  | vehicles {s : State} {l : List Vehicle} (h : VehiclesWrite s l) : Write s (s.setVehicles l)

/-- A run of writes. -/
def Writes : State → State → Prop := Relation.ReflTransGen Write

theorem Writes.refl (s : State) : Writes s s := Relation.ReflTransGen.refl

theorem Write.writes (h : Write s t) : Writes s t := Relation.ReflTransGen.single h

theorem Writes.trans (h : Writes s t) (k : Writes t u) : Writes s u := Relation.ReflTransGen.trans h k

/-- What each write keeps, a run of writes keeps. -/
theorem Writes.keeps {P : State → Prop} (h : Writes s t) (hw : ∀ a b, Write a b → P a → P b) (hs : P s) : P t := by
  induction h with
  | refl => exact hs
  | tail _ hab ih => exact hw _ _ hab ih

/-! ## Notices -/

theorem writes_raise (b : NoticeBody) (s : State) : Writes s (raise b s) := (Write.notice s b).writes

theorem writes_raiseSection (i : SectionIx) (s : State) : Writes s (raiseSection i s) := by
  unfold raiseSection; split
  · exact writes_raise _ s
  · exact .refl s

theorem writes_raiseFrog (f : FrogIx) (s : State) : Writes s (raiseFrog f s) := by
  unfold raiseFrog; split
  · exact writes_raise _ s
  · exact .refl s

theorem writes_noteFrog {f : FrogIx} {w : FrogWork} (h : Writes s w.1) : Writes s (noteFrog f w) := by
  unfold noteFrog; split
  · exact h.trans (writes_raiseFrog f w.1)
  · exact h

theorem Writes.followedBy {w : FrogWork} {k : State → FrogWork} (h : Writes s w.1) (hk : Writes w.1 (k w.1).1) :
    Writes s (w.followedBy k).1 := h.trans hk

theorem writes_raiseFlagSet (i : SectionIx) (fl : Option SectionFlag) (s : State) : Writes s (raiseFlagSet i fl s) := by
  unfold raiseFlagSet; split
  · exact writes_raise _ s
  · exact .refl s

theorem writes_raiseSupplyCleared (i : SectionIx) (x : Sect) (st : SectionState) (s : State) :
    Writes s (raiseSupplyCleared i x st s) := by
  unfold raiseSupplyCleared; split
  · exact writes_raise _ s
  · exact .refl s

/-! ## The law of a frog (R85, R89, R100) -/

/-- With an empty queue the law asks that the position is not MOVING. -/
theorem frogOk_of_nil {g : Frog} (h : g.queue = []) : FrogOk g ↔ ∀ t, g.position ≠ .moving t := by
  constructor
  · intro hg t ht
    obtain ⟨r, rest, hq, -⟩ := (hg.moving t).mp ht
    rw [h] at hq; cases hq
  · intro hp
    exact ⟨by simp [h], by simp [h], fun t => by simp [h, hp], by simp [h, headIn, headSetPassage]⟩

/-- With a head `r` the law speaks of the head, the entries behind it, and the position. -/
theorem frogOk_of_cons {g : Frog} {r : Request} {rest : List Request} (h : g.queue = r :: rest) :
    FrogOk g ↔ rest.length ≤ 3 ∧ (∀ k ∈ rest, k.phase = .waiting) ∧
      (∀ t, g.position = .moving t ↔ r.phase = .throwing ∧ r.target = t) ∧
      (r.phase = .set → ∃ tag w, r.kind = .passage tag w) := by
  have hset : headIn .set g.queue = headSetPassage g.queue ↔ (r.phase = .set → ∃ tag w, r.kind = .passage tag w) := by
    obtain ⟨k, target, ph⟩ := r
    rw [h]
    cases k <;> cases ph <;> simp [headIn, headSetPassage]
  constructor
  · rintro ⟨hroom, hbehind, hmoving, hhead⟩
    rw [h] at hroom hbehind
    refine ⟨by simp [Config.requestCapacity] at hroom; omega, hbehind, fun t => ?_, hset.mp hhead⟩
    rw [hmoving t, h]
    constructor
    · rintro ⟨r', rest', he, hp⟩
      cases he; exact hp
    · exact fun hp => ⟨r, rest, rfl, hp⟩
  · rintro ⟨hroom, hbehind, hmoving, hhead⟩
    refine ⟨by rw [h]; simp [Config.requestCapacity]; omega, by rw [h]; exact hbehind, fun t => ?_, hset.mpr hhead⟩
    rw [hmoving t, h]
    constructor
    · exact fun hp => ⟨r, rest, rfl, hp⟩
    · rintro ⟨r', rest', he, hp⟩
      cases he; exact hp

/-- A queue of WAITING entries with the tongues not MOVING. -/
theorem frogOk_of_waiting {g : Frog} (hroom : g.queue.length ≤ 4) (hq : ∀ k ∈ g.queue, k.phase = .waiting)
    (hp : ∀ t, g.position ≠ .moving t) : FrogOk g := by
  cases h : g.queue with
  | nil => exact (frogOk_of_nil h).mpr hp
  | cons r rest =>
    rw [h] at hroom hq
    have hr := hq r (by simp)
    exact (frogOk_of_cons h).mpr ⟨by simp at hroom; omega, fun k hk => hq k (by simp [hk]), fun t => by simp [hp, hr],
      fun hs => by simp [hr] at hs⟩

/-- The law is about the queue and the position alone. -/
theorem FrogOk.congr {g h : Frog} (hg : FrogOk g) (hq : h.queue = g.queue) (hp : h.position = g.position) : FrogOk h := by
  obtain ⟨h1, h2, h3, h4⟩ := hg
  rw [← hq] at h1 h2 h3 h4
  rw [← hp] at h3
  exact ⟨h1, h2, h3, h4⟩

/-- The tongues are not MOVING where the head is not THROWING. -/
theorem FrogOk.not_moving {g : Frog} (hg : FrogOk g) (hh : headIn .throwing g.queue = false) (t : Route) :
    g.position ≠ .moving t := by
  intro ht
  obtain ⟨r, rest, hq, hr, -⟩ := (hg.moving t).mp ht
  simp [hq, headIn, hr] at hh

/-! ## Writes of a frog's record -/

theorem writes_putFrog {f : FrogIx} {g h : Frog} (hg : s.frog f = some g) (hw : FrogWrite s f g h) :
    Writes s (s.putFrog f (some h)) := (Write.frog hg hw).writes

/-- A record whose queue or position changes, with the block set kept. -/
theorem writes_requeue {f : FrogIx} {g h : Frog} (hg : s.frog f = some g) (hok : FrogOk g → FrogOk h)
    (hp : h.params = g.params := by rfl) (hb : h.blocks = g.blocks := by rfl) : Writes s (s.putFrog f (some h)) :=
  writes_putFrog hg ⟨hp, hok, fun hd => .inl (hb ▸ hd)⟩

/-- A record with the queue, the position, the parameters and the block set kept. -/
theorem frogWrite_of_same {f : FrogIx} {g h : Frog} (hp : h.params = g.params := by rfl)
    (hq : h.queue = g.queue := by rfl) (hpos : h.position = g.position := by rfl) (hb : h.blocks = g.blocks := by rfl) :
    FrogWrite s f g h :=
  ⟨hp, fun hg => hg.congr hq hpos, fun hd => .inl (hb ▸ hd)⟩

theorem writes_editFrog {f : FrogIx} {k : Frog → Frog} (h : ∀ g, s.frog f = some g → FrogWrite s f g (k g)) :
    Writes s (s.editFrog f k) := by
  unfold State.editFrog; split
  next g hg => exact writes_putFrog hg (h g hg)
  next => exact .refl s

theorem writes_editCapture (f : FrogIx) (k : Capture → Capture) (s : State) : Writes s (s.editCapture f k) :=
  writes_editFrog fun _ _ => frogWrite_of_same

/-! ## The head check (R93, R94, R100) -/

theorem writes_serveByThrow {f : FrogIx} {g : Frog} {r : Request} {rest : List Request} (hg : s.frog f = some g)
    (hq : g.queue = r :: rest) : Writes s (serveByThrow f g r rest s).1 := by
  unfold serveByThrow
  dsimp only
  have hreg : Writes s (s.setOrders (register s.orders g.params.ctrlAddr (throwKind r.target)).1) :=
    (Write.registered s _ _).writes
  split
  · refine hreg.trans (writes_requeue hg fun hok => ?_)
    obtain ⟨h1, h2, -, -⟩ := (frogOk_of_cons hq).mp hok
    exact (frogOk_of_cons (by rfl)).mpr ⟨h1, h2, fun t => by simp, fun hs => by simp at hs⟩
  · exact hreg.trans (writes_putFrog hg frogWrite_of_same)

theorem writes_checkQueue {f : FrogIx} {g : Frog} (q : List Request) (hg : s.frog f = some g) (hq : g.queue = q) :
    Writes s (checkQueue f q s).1 := by
  induction q generalizing s g with
  | nil => exact .refl s
  | cons r rest ih =>
    unfold checkQueue
    rw [hg]
    dsimp only
    split
    next => exact .refl s
    next =>
      split
      next =>
        split
        next hpos =>
          have hat : ∀ t, g.position ≠ .moving t := by simp [hpos]
          split
          next tag w hk =>
            refine writes_requeue hg fun hok => ?_
            obtain ⟨h1, h2, -, -⟩ := (frogOk_of_cons hq).mp hok
            exact (frogOk_of_cons (r := { r with phase := .set }) (by rfl)).mpr
              ⟨h1, h2, fun t => by simp [hpos], fun _ => ⟨tag, w, hk⟩⟩
          next =>
            refine (writes_requeue hg fun hok => ?_).trans (ih (State.frog_putFrog_same ..) rfl)
            obtain ⟨h1, h2, -, -⟩ := (frogOk_of_cons hq).mp hok
            exact frogOk_of_waiting (g := { g with queue := rest, wait := none }) (by simp; omega) h2 hat
        next => exact writes_serveByThrow hg hq
      next => exact writes_putFrog hg frogWrite_of_same

theorem writes_checkHead (f : FrogIx) (s : State) : Writes s (checkHead f s).1 := by
  unfold checkHead; split
  next g hg => exact writes_checkQueue _ hg rfl
  next => exact .refl s

theorem writes_foldl {α : Type} {k : State → α → State} (h : ∀ t a, Writes t (k t a)) (l : List α) (s : State) :
    Writes s (l.foldl k s) := by
  induction l generalizing s with
  | nil => exact .refl s
  | cons a l ih => exact (h s a).trans (ih _)

theorem writes_checkHeadsOf (i : SectionIx) (s : State) : Writes s (checkHeadsOf i s) := by
  refine writes_foldl (fun t f => ?_) _ s
  split
  · split
    · exact writes_noteFrog (writes_checkHead f t)
    · exact .refl t
  · exact .refl t

/-! ## The block set (R86 to R88) -/

theorem dewire_put (b : BlockSet) (r : BlockReason) (v : Bool) (h : b.dewire = true) (hr : r = .dewire → v = true) :
    (b.put r v).dewire = true := by
  cases r <;> simp_all [BlockSet.put]

theorem writes_addBlock (f : FrogIx) (r : BlockReason) (s : State) : Writes s (addBlock f r s).1 := by
  unfold addBlock; split
  next => exact .refl s
  next g hg =>
    split
    · exact .refl s
    · have hput : Writes s (s.putFrog f (some { g with blocks := g.blocks.put r true })) :=
        writes_putFrog hg ⟨rfl, fun hok => hok.congr rfl rfl, fun hd => .inl (dewire_put _ _ _ hd fun _ => rfl)⟩
      dsimp only
      split
      · exact hput.trans (writes_raise _ _)
      · exact (hput.trans (writes_raise _ _)).trans (writes_checkHead f _)

/-- A reason taken out; DEWIRE only where no vehicle is dewired at the frog. -/
theorem writes_removeBlock {f : FrogIx} {r : BlockReason}
    (h : r = .dewire → ∀ v ∈ s.vehicles, v.dewire ≠ some (some f)) : Writes s (removeBlock f r s).1 := by
  unfold removeBlock; split
  next => exact .refl s
  next g hg =>
    split
    · have hput : Writes s (s.putFrog f (some { g with blocks := g.blocks.put r false })) := by
        refine writes_putFrog hg ⟨rfl, fun hok => hok.congr rfl rfl, fun hd => ?_⟩
        by_cases hr : r = .dewire
        · exact .inr (h hr)
        · exact .inl (dewire_put _ _ _ hd fun he => absurd he hr)
      exact (hput.trans (writes_raise _ _)).trans (writes_checkHead f _)
    · exact .refl s

theorem writes_clearOverflowIfEmpty (f : FrogIx) (s : State) : Writes s (clearOverflowIfEmpty f s).1 := by
  unfold clearOverflowIfEmpty; split
  · split
    · exact writes_removeBlock nofun
    · exact .refl s
  · exact .refl s

theorem writes_reviewDewire (f : FrogIx) (s : State) : Writes s (reviewDewire f s).1 := by
  unfold reviewDewire; split
  · split
    next => exact .refl s
    next h =>
      refine writes_removeBlock fun _ v hv hd => h ?_
      simp only [State.dewiredAt, Bool.or_eq_true, List.any_eq_true]
      exact .inl ⟨v, hv, by simpa using hd⟩
  · exact .refl s

/-! ## The queue of a frog (R89 to R92, R98 to R104) -/

theorem writes_joinQueue {f : FrogIx} (k : RequestKind) (target : Route)
    (hroom : ∀ g, s.frog f = some g → g.queue.length < Config.requestCapacity) : Writes s (joinQueue f k target s).1 := by
  unfold joinQueue; split
  next => exact .refl s
  next g hg =>
    have hput : Writes s (s.putFrog f (some { g with queue := g.queue ++ [{ kind := k, target, phase := .waiting }] })) := by
      refine writes_requeue hg fun hok => ?_
      have hlen : g.queue.length < 4 := hroom g hg
      cases hq : g.queue with
      | nil =>
        exact frogOk_of_waiting (by simp) (by simp) (fun t => (frogOk_of_nil hq).mp hok t)
      | cons r rest =>
        obtain ⟨h1, h2, h3, h4⟩ := (frogOk_of_cons hq).mp hok
        rw [hq] at hlen
        refine (frogOk_of_cons (r := r) (List.cons_append ..)).mpr ⟨by simp at hlen ⊢; omega, fun e he => ?_, h3, h4⟩
        obtain he | he := List.mem_append.mp he
        · exact h2 e he
        · rw [List.mem_singleton.mp he]
    dsimp only
    split
    · exact hput.followedBy (writes_checkHead f _)
    · exact hput

theorem writes_takePassage (f : FrogIx) (r : Route) (tag : Option VehicleNumber) (w : Tick) (s : State) :
    Writes s (takePassage f r tag w s).1 := by
  unfold takePassage; split
  next => exact .refl s
  next g hg =>
    split
    next hl => exact writes_joinQueue _ _ fun g' hg' => by rw [hg] at hg'; cases hg'; exact hl
    next => exact writes_addBlock _ _ s

theorem writes_dispatcherThrow (f : FrogIx) (r : Route) (s : State) : Writes s (dispatcherThrow f r s) := by
  unfold dispatcherThrow; split
  next => exact .refl s
  next g hg =>
    split
    next hl => exact writes_noteFrog (writes_joinQueue _ _ fun g' hg' => by rw [hg] at hg'; cases hg'; exact hl)
    next => exact writes_raise _ s

theorem writes_setHead (f : FrogIx) (s : State) : Writes s (setHead f s).1 := by
  unfold setHead; split
  next => exact .refl s
  next g hg =>
    split
    next => exact .refl s
    next r rest hq =>
      dsimp only
      split
      next tag w hk =>
        refine writes_requeue hg fun hok => ?_
        obtain ⟨h1, h2, -, -⟩ := (frogOk_of_cons hq).mp hok
        exact (frogOk_of_cons (r := { r with phase := .set }) (by rfl)).mpr
          ⟨h1, h2, fun t => by simp, fun _ => ⟨tag, w, hk⟩⟩
      next =>
        refine ((writes_requeue hg fun hok => ?_).followedBy
          (writes_clearOverflowIfEmpty f _)).followedBy (writes_checkHead f _)
        obtain ⟨h1, h2, -, -⟩ := (frogOk_of_cons hq).mp hok
        exact frogOk_of_waiting (h1.trans (by decide)) h2 (fun t => by simp)

theorem writes_failThrow (f : FrogIx) (s : State) : Writes s (failThrow f s).1 := by
  unfold failThrow; split
  next => exact .refl s
  next g hg =>
    split
    next => exact .refl s
    next r rest hq =>
      refine ((writes_requeue hg fun hok => ?_).followedBy (writes_addBlock f _ _)).followedBy
        (writes_checkHead f _)
      obtain ⟨h1, h2, -, -⟩ := (frogOk_of_cons hq).mp hok
      exact (frogOk_of_cons (by rfl)).mpr ⟨h1, h2, fun t => by simp, fun hs => by simp at hs⟩

/-- A position other than MOVING is reported while no head is THROWING (R103). -/
theorem writes_movePosition {f : FrogIx} {p : Position} (hp : ∀ t, p ≠ .moving t)
    (hh : ∀ g, s.frog f = some g → headIn .throwing g.queue = false) : Writes s (movePosition f p s).1 := by
  unfold movePosition; split
  next => exact .refl s
  next g hg =>
    split
    next => exact .refl s
    next =>
      have hput : Writes s (s.putFrog f (some { g with position := p })) := by
        refine writes_requeue hg fun hok => ?_
        cases hq : g.queue with
        | nil => exact (frogOk_of_nil rfl).mpr hp
        | cons r rest =>
          obtain ⟨h1, h2, -, h4⟩ := (frogOk_of_cons hq).mp hok
          have hr : r.phase ≠ .throwing := by
            have := hh g hg
            rw [hq] at this
            simpa [headIn] using this
          exact (frogOk_of_cons (by rfl)).mpr ⟨h1, h2, fun t => by simp [hp, hr], h4⟩
      dsimp only
      split
      · exact hput.followedBy (writes_addBlock f _ _)
      · split
        · exact hput.followedBy (writes_checkHead f _)
        · exact hput

theorem writes_positionWork (f : FrogIx) (rep : PositionReport) (s : State) : Writes s (positionWork f rep s).1 := by
  unfold positionWork; split
  next => exact .refl s
  next g hg =>
    split
    next =>
      split
      · split
        · exact writes_setHead f s
        · exact .refl s
      · exact .refl s
      · exact writes_failThrow f s
    next hh =>
      have hh' : ∀ g', s.frog f = some g' → headIn .throwing g'.queue = false := fun g' hg' => by
        rw [hg] at hg'; cases hg'; simpa using hh
      split
      · exact writes_movePosition nofun hh'
      · exact .refl s
      · exact writes_movePosition nofun hh'

theorem writes_throwExpiry (f : FrogIx) (s : State) : Writes s (throwExpiry f s) := by
  unfold throwExpiry; split
  · exact .refl s
  · split
    · exact writes_noteFrog (writes_failThrow f s)
    · exact .refl s

/-- A set passage leaves the queue: the entries behind it are WAITING. -/
theorem frogOk_tail {g h : Frog} (hok : FrogOk g) (hs : headSetPassage g.queue = true) (hq : h.queue = g.queue.tail)
    (hp : h.position = g.position) : FrogOk h := by
  cases he : g.queue with
  | nil => rw [he] at hs; cases hs
  | cons r rest =>
    obtain ⟨h1, h2, -, -⟩ := (frogOk_of_cons he).mp hok
    have hr : headIn .throwing g.queue = false := by
      rw [he] at hs ⊢
      obtain ⟨k, target, ph⟩ := r
      cases ph
      · rfl
      · cases k <;> cases hs
      · rfl
    rw [he] at hq
    exact frogOk_of_waiting (by rw [hq]; exact h1.trans (by decide)) (by rw [hq]; exact h2)
      (fun t => by rw [hp]; exact hok.not_moving hr t)

theorem writes_exitExpiry (f : FrogIx) (s : State) : Writes s (exitExpiry f s) := by
  unfold exitExpiry; split
  next => exact .refl s
  next g hg =>
    split
    next h =>
      have hset : headSetPassage g.queue = true := by
        rw [Bool.and_eq_true] at h; exact h.2
      exact writes_noteFrog ((((writes_requeue hg (fun hok => frogOk_tail hok hset (by rfl) (by rfl))).followedBy
        (writes_clearOverflowIfEmpty f _)).followedBy (writes_addBlock f _ _)).followedBy (writes_checkHead f _))
    next => exact .refl s

theorem writes_exitFirstPeriod (f : FrogIx) (s : State) : Writes s (exitFirstPeriod f s) := by
  unfold exitFirstPeriod; split
  next => exact .refl s
  next g hg =>
    split
    · exact writes_putFrog hg frogWrite_of_same
    · exact .refl s

theorem writes_frogEnding (f : FrogIx) (k : OrderKind) (accepted : Bool) (s : State) :
    Writes s (frogEnding f k accepted s) := by
  unfold frogEnding; split
  · exact .refl s
  · split
    · refine writes_noteFrog (Writes.followedBy ?_ (writes_checkHead f _))
      split
      · exact writes_failThrow f s
      · exact .refl s
    · exact .refl s

/-- The entries that FLUSH_FROG keeps (R104): the head that has left WAITING. -/
theorem frogOk_flushed {g h : Frog} (hok : FrogOk g) (hq : h.queue = g.queue.filter fun r => decide (r.phase ≠ .waiting))
    (hp : h.position = g.position) : FrogOk h := by
  cases he : g.queue with
  | nil => exact hok.congr (by rw [hq, he]; rfl) hp
  | cons r rest =>
    obtain ⟨-, h2, h3, h4⟩ := (frogOk_of_cons he).mp hok
    have hrest : rest.filter (fun r => decide (r.phase ≠ .waiting)) = [] :=
      List.filter_eq_nil_iff.mpr fun k hk => by simp [h2 k hk]
    rw [he, List.filter_cons, hrest] at hq
    by_cases hr : r.phase = .waiting
    · exact (frogOk_of_nil (by rw [hq]; simp [hr])).mpr fun t => by rw [hp, Ne, h3 t]; simp [hr]
    · exact (frogOk_of_cons (r := r) (rest := []) (by rw [hq]; simp [hr])).mpr
        ⟨by simp, by simp, fun t => by rw [hp]; exact h3 t, h4⟩

theorem writes_flushFrog (f : FrogIx) (s : State) : Writes s (flushFrog f s) := by
  unfold flushFrog; split
  next => exact .refl s
  next g hg =>
    exact writes_noteFrog ((writes_requeue hg (fun hok => frogOk_flushed hok (by rfl) (by rfl))).followedBy
      (writes_removeBlock nofun))

end Sys2Proof.Machine
end

section
/-!
PROOFS. The work of the vehicle table and of the skates as runs of writes: entries made, heard of and changed, reports, the
DEWIRE of a report and its frog, and the conclusions and exits that the skates hand over.
-/

namespace Sys2Proof.Machine

variable {s t u : State}

/-! ## Writes of the vehicle table -/

/-- An entry may be replaced: its number is kept, its fault list stays within R117, and a section or frog that it names now was
named by it before or is configured, the frog with DEWIRE in its block set. -/
structure VehicleWrite (s : State) (v w : Vehicle) : Prop where
  number : w.number = v.number
  records : TableOk s.vehicles → v.faults.length ≤ Config.faultCapacity → w.faults.length ≤ Config.faultCapacity
  place : AddressesOk s → ∀ i, w.located = some i → (s.sect i).isSome = true ∨ v.located = some i
  dewire : ∀ f, w.dewire = some (some f) →
    (∃ g, s.frog f = some g ∧ g.blocks.dewire = true) ∨ v.dewire = some (some f)

theorem VehicleWrite.refl (s : State) (v : Vehicle) : VehicleWrite s v v :=
  ⟨rfl, fun _ h => h, fun _ _ h => .inr h, fun _ h => .inr h⟩

/-- An entry that keeps its number, its records, its section and its DEWIRE. -/
theorem vehicleWrite_of_same {v w : Vehicle} (hn : w.number = v.number := by rfl) (hr : w.faults = v.faults := by rfl)
    (hl : w.located = v.located := by rfl) (hd : w.dewire = v.dewire := by rfl) : VehicleWrite s v w :=
  ⟨hn, fun _ h => hr ▸ h, fun _ _ h => .inr (hl ▸ h), fun _ h => .inr (hd ▸ h)⟩

theorem vehiclesWrite_map {k : Vehicle → Vehicle} (h : ∀ v ∈ s.vehicles, VehicleWrite s v (k v)) :
    VehiclesWrite s (s.vehicles.map k) where
  table ht := by
    refine ⟨by simpa using ht.room, ?_, fun w hw => ?_⟩
    · have hn : (s.vehicles.map k).map Vehicle.number = s.vehicles.map Vehicle.number := by
        rw [List.map_map]
        exact List.map_congr_left fun v hv => (h v hv).number
      rw [hn]
      exact ht.numbers
    · obtain ⟨v, hv, rfl⟩ := List.mem_map.mp hw
      exact (h v hv).records ht (ht.records v hv)
  places ha w hw i hi := by
    obtain ⟨v, hv, rfl⟩ := List.mem_map.mp hw
    exact ((h v hv).place ha i hi).imp_right fun hl => ⟨v, hv, hl⟩
  dewires w hw f hf := by
    obtain ⟨v, hv, rfl⟩ := List.mem_map.mp hw
    exact ((h v hv).dewire f hf).imp_right fun hd => ⟨v, hv, hd⟩

theorem vehiclesWrite_filter (p : Vehicle → Bool) : VehiclesWrite s (s.vehicles.filter p) where
  table ht := ⟨(List.length_filter_le ..).trans ht.room, ht.numbers.sublist (List.filter_sublist.map _),
    fun v hv => ht.records v (List.mem_filter.mp hv).1⟩
  places _ v hv _ hi := .inr ⟨v, (List.mem_filter.mp hv).1, hi⟩
  dewires v hv _ hf := .inr ⟨v, (List.mem_filter.mp hv).1, hf⟩

theorem writes_setVehicles {l : List Vehicle} (h : VehiclesWrite s l) : Writes s (s.setVehicles l) :=
  (Write.vehicles h).writes

theorem writes_editVehicle {n : VehicleNumber} {k : Vehicle → Vehicle} (h : ∀ v, VehicleWrite s v (k v)) :
    Writes s (s.editVehicle n k) := by
  refine writes_setVehicles (vehiclesWrite_map fun v _ => ?_)
  split
  · exact h v
  · exact .refl s v

/-! ## Entries made and heard of (R109 to R111, R117) -/

theorem tableOk_made {n : VehicleNumber} {l m : List Vehicle} (hm : TableOk m) (hn : ∀ v ∈ m, v.number ≠ n)
    (hr : m.length < 128) (hl : l.Perm (Vehicle.starting n :: m)) : TableOk l := by
  refine ⟨?_, ?_, fun v hv => ?_⟩
  · rw [hl.length_eq, List.length_cons]; exact hr
  · refine ((hl.map Vehicle.number).nodup_iff).mpr ?_
    rw [List.map_cons, List.nodup_cons]
    refine ⟨fun h => ?_, hm.numbers⟩
    obtain ⟨v, hv, he⟩ := List.mem_map.mp h
    exact hn v hv he
  · obtain rfl | hv := List.mem_cons.mp (hl.mem_iff.mp hv)
    · exact Nat.zero_le _
    · exact hm.records v hv

theorem vehiclesWrite_made {n : VehicleNumber} {l : List Vehicle} (hn : s.vehicle n = none) (hl : entryMade n s l) :
    VehiclesWrite s l := by
  have hne : ∀ v ∈ s.vehicles, v.number ≠ n := fun v hv => by simpa using List.find?_eq_none.mp hn v hv
  have hmem : ∀ v ∈ l, v = Vehicle.starting n ∨ v ∈ s.vehicles := by
    intro v hv
    by_cases hlt : s.vehicles.length < 128
    · exact List.mem_cons.mp ((hl.1 hlt).mem_iff.mp hv)
    · obtain ⟨e, -, -, -, hp⟩ := hl.2 (Nat.le_of_not_lt hlt)
      exact (List.mem_cons.mp (hp.mem_iff.mp hv)).imp_right fun h => (List.mem_filter.mp h).1
  refine ⟨fun ht => ?_, fun _ v hv i hi => ?_, fun v hv f hf => ?_⟩
  · by_cases hlt : s.vehicles.length < 128
    · exact tableOk_made ht hne hlt (hl.1 hlt)
    · obtain ⟨e, he, -, -, hp⟩ := hl.2 (Nat.le_of_not_lt hlt)
      refine tableOk_made (m := s.vehicles.filter fun v => decide (v.number ≠ e.number))
        ((vehiclesWrite_filter _).table ht) (fun v hv => hne v (List.mem_filter.mp hv).1) ?_ hp
      have hlt : (s.vehicles.filter fun v => decide (v.number ≠ e.number)).length < s.vehicles.length :=
        List.length_filter_lt_length_iff_exists.mpr ⟨e, he, by simp⟩
      exact hlt.trans_le ht.room
  · obtain rfl | hv := hmem v hv
    · cases hi
    · exact .inr ⟨v, hv, hi⟩
  · obtain rfl | hv := hmem v hv
    · cases hf
    · exact .inr ⟨v, hv, hf⟩

theorem writes_obtainVehicle (n : VehicleNumber) (s : State) : Writes s (obtainVehicle n s).1 := by
  obtain ⟨hheld, hmade, hfull⟩ := obtainVehicle_cases (s := s) n
  cases hv : s.vehicle n with
  | some v => rw [hheld (by simp [hv])]; exact .refl s
  | none =>
    by_cases hm : s.vehicles.length < 128 ∨ ∃ v ∈ s.vehicles, faultFree v
    · obtain ⟨l, hl, he⟩ := hmade hv hm
      rw [he]
      exact writes_setVehicles (vehiclesWrite_made hv hl)
    · rw [not_or, not_exists] at hm
      rw [hfull hv (Nat.le_of_not_lt hm.1) fun v h hf => hm.2 v ⟨h, hf⟩]
      exact writes_raise _ s

theorem obtainVehicle_sections (n : VehicleNumber) : (obtainVehicle n s).1.sections = s.sections :=
  (congrArg State.sections (besideVehicles_obtainVehicle s n) :)

theorem writes_hearVehicle (n : VehicleNumber) (s : State) : Writes s (hearVehicle n s) :=
  writes_editVehicle fun _ => vehicleWrite_of_same

theorem vehicleWrite_addRecord (r : FaultRecord) (v : Vehicle) : VehicleWrite s v (v.addRecord r) := by
  unfold Vehicle.addRecord
  split
  next h => exact ⟨rfl, fun _ _ => by simpa [Config.faultCapacity] using h, fun _ _ hl => .inr hl, fun _ hd => .inr hd⟩
  next h =>
    refine ⟨rfl, fun _ hr => ?_, fun _ _ hl => .inr hl, fun _ hd => .inr hd⟩
    simp [Config.faultCapacity] at h hr ⊢
    omega

theorem writes_appendFault (n : VehicleNumber) (c : FaultCode) (p : Place) (s : State) :
    Writes s (appendFault n c p s) :=
  (writes_editVehicle fun v => vehicleWrite_addRecord _ v).trans (writes_raise _ _)

/-- The law of the addresses is about the sections and the frogs alone. -/
theorem AddressesOk.congr (h : AddressesOk s) (hs : t.sections = s.sections) (hf : t.frogs = s.frogs) : AddressesOk t := by
  have hs' := sect_congr hs
  have hf' := frog_congr hf
  obtain ⟨h1, h2, h3, h4, h5⟩ := h
  constructor <;> simp only [hs', hf']
  exacts [h1, h2, h3, h4, h5]

theorem writes_placeVehicle {n : VehicleNumber} {i : SectionIx} (hi : AddressesOk s → (s.sect i).isSome = true) :
    Writes s (placeVehicle n i s) := by
  unfold placeVehicle
  dsimp only
  have hsec : (obtainVehicle n s).1.sections = s.sections := obtainVehicle_sections n
  have hfrogs : (obtainVehicle n s).1.frogs = s.frogs := obtainVehicle_frogs n
  split
  · refine ((writes_obtainVehicle n s).trans (writes_hearVehicle n _)).trans (writes_editVehicle fun v => ?_)
    refine ⟨rfl, fun _ hr => hr, fun ha j hj => .inl ?_, fun _ hd => .inr hd⟩
    obtain rfl : i = j := by simpa using hj
    have hs : (hearVehicle n (obtainVehicle n s).1).sect i = s.sect i := sect_congr hsec i
    rw [hs]
    exact hi (ha.congr hsec.symm hfrogs.symm)
  · exact writes_obtainVehicle n s

theorem writes_bounceVehicle (n : VehicleNumber) (f : FrogIx) (s : State) : Writes s (bounceVehicle n f s) := by
  have hbounce : ∀ t : State, Writes t (t.editVehicle n fun v => { v with bounce := true }) :=
    fun t => writes_editVehicle fun _ => vehicleWrite_of_same
  unfold bounceVehicle
  dsimp only
  split
  · exact (((writes_obtainVehicle n s).trans (writes_hearVehicle n _)).trans (hbounce _)).trans
      (writes_appendFault n _ _ _)
  · exact writes_obtainVehicle n s

/-! ## Reports (R112 to R116) -/

theorem writes_reviewLeft (d : Option (Option FrogIx)) (s : State) : Writes s (reviewLeft d s) := by
  unfold reviewLeft; split
  · exact writes_noteFrog (writes_reviewDewire _ s)
  · exact .refl s

theorem writes_addDewire (f : FrogIx) (s : State) : Writes s (addDewire f s) := writes_noteFrog (writes_addBlock f _ s)

theorem writes_addUntrackedDewire (f : FrogIx) (s : State) : Writes s (addUntrackedDewire f s) :=
  Writes.trans (t := s.editFrog f fun g => { g with untracked := true }) (writes_editFrog fun _ _ => frogWrite_of_same)
    (writes_addDewire f _)

/-- An entry changed by a report: the section that the report names is configured. -/
theorem vehicleWrite_placedIn {i : Option SectionIx} {v w : Vehicle} (hi : ∀ j, i = some j → (s.sect j).isSome = true)
    (h : VehicleWrite s v w) : VehicleWrite s v (w.placedIn i) := by
  cases i with
  | none => exact h
  | some j =>
    refine ⟨h.number, h.records, fun _ k hk => .inl ?_, h.dewire⟩
    obtain rfl : j = k := by simpa [Vehicle.placedIn] using hk
    exact hi j rfl

/-- The entry and its record of a DEWIRE report, once the frog named has DEWIRE in its block set (R113). -/
theorem writes_dewireEntry {n : VehicleNumber} {i : Option SectionIx} {f : Option FrogIx}
    (hi : ∀ j, i = some j → (s.sect j).isSome = true)
    (hf : ∀ k, f = some k → ∃ g, s.frog k = some g ∧ g.blocks.dewire = true) :
    Writes s (appendFault n .dewire (dewirePlace i f) (s.editVehicle n fun v => ({ v with dewire := some f }).placedIn i)) := by
  refine Writes.trans (writes_editVehicle fun v => vehicleWrite_placedIn hi ?_) (writes_appendFault n _ _ _)
  exact ⟨rfl, fun _ hr => hr, fun _ _ hl => .inr hl, fun k hk => .inl (hf k (by simpa using hk))⟩

/-- A DEWIRE report at a frog is written as DEWIRE in the frog's block set and then the entry's part: the two are of different
tables, and the notices come in the model's order. -/
theorem writes_dewireAt {n : VehicleNumber} {i : Option SectionIx} {k : FrogIx} {g : Frog}
    (hi : ∀ j, i = some j → (s.sect j).isSome = true) (hg : s.frog k = some g) :
    Writes s (addDewire k (appendFault n .dewire (dewirePlace i (some k))
      (s.editVehicle n fun v => ({ v with dewire := some (some k) }).placedIn i))) := by
  have hg' : (appendFault n .dewire (dewirePlace i (some k))
      (s.editVehicle n fun v => ({ v with dewire := some (some k) }).placedIn i)).frog k = some g := by
    simpa [appendFault, State.editVehicle] using hg
  rw [addDewire, addBlock_eq .dewire hg']
  simp only [noteFrog, Bool.false_eq_true, if_false, blockGained]
  split
  next hd =>
    rw [frog_self hg']
    exact writes_dewireEntry hi fun k' hk => ⟨g, by cases hk; exact hg, hd⟩
  next =>
    refine Writes.trans ?_ (writes_raise _ _)
    rw [appendFault, raise_putFrog]
    have hput := writes_putFrog (h := { g with
      blocks := g.blocks.put .dewire true
      wait := if !g.blocks.blocked && g.queue.head?.any (fun q => decide (q.phase = .waiting)) then none else g.wait })
      hg ⟨rfl, fun hok => hok.congr rfl rfl, fun _ => .inl rfl⟩
    refine hput.trans (writes_dewireEntry hi fun k' hk => ?_)
    cases hk
    exact ⟨_, State.frog_putFrog_same .., rfl⟩

/-- The section and the frog that a report names are configured (R108). -/
def VehicleReport.Named (s : State) : VehicleReport → Prop
  | .locate i => ∀ j, i = some j → (s.sect j).isSome = true
  | .dewire i f => (∀ j, i = some j → (s.sect j).isSome = true) ∧ ∀ k, f = some k → (s.frog k).isSome = true
  | .insulation i => ∀ j, i = some j → (s.sect j).isSome = true
  | .clear _ => True
  | .signOff => True

theorem VehicleReport.Named.congr {r : VehicleReport} (h : r.Named s) (hs : t.sections = s.sections)
    (hf : t.frogs = s.frogs) : r.Named t := by
  have hsect := sect_congr hs
  have hfrog := frog_congr hf
  cases r with
  | locate i => simpa only [VehicleReport.Named, hsect] using h
  | dewire i k => simpa only [VehicleReport.Named, hsect, hfrog] using h
  | insulation i => simpa only [VehicleReport.Named, hsect] using h
  | clear c => exact h
  | signOff => exact h

theorem writes_dewireReport {n : VehicleNumber} {i : Option SectionIx} {f : Option FrogIx}
    (h : (VehicleReport.dewire i f).Named s) : Writes s (dewireReport n i f s) := by
  obtain ⟨hi, hf⟩ := h
  unfold dewireReport
  dsimp only
  have hdone : Writes s (match f with
      | some f => addDewire f (appendFault n .dewire (dewirePlace i (some f))
          (s.editVehicle n fun v => ({ v with dewire := some (some f) }).placedIn i))
      | none => appendFault n .dewire (dewirePlace i none)
          (s.editVehicle n fun v => ({ v with dewire := some none }).placedIn i)) := by
    cases f with
    | none => exact writes_dewireEntry hi nofun
    | some k =>
      obtain ⟨g, hg⟩ := Option.isSome_iff_exists.mp (hf k rfl)
      exact writes_dewireAt hi hg
  cases f with
  | none =>
    split
    · exact hdone
    · exact hdone.trans (writes_reviewLeft _ _)
  | some k =>
    split
    · exact hdone
    · exact hdone.trans (writes_reviewLeft _ _)

theorem writes_insulationReport {n : VehicleNumber} {i : Option SectionIx}
    (hi : ∀ j, i = some j → (s.sect j).isSome = true) : Writes s (insulationReport n i s) :=
  Writes.trans (t := s.editVehicle n fun v => ({ v with insulation := true }).placedIn i)
    (writes_editVehicle fun _ => vehicleWrite_placedIn hi vehicleWrite_of_same) (writes_appendFault n _ _ _)

theorem writes_clearReport (n : VehicleNumber) (c : ClearScope) (s : State) : Writes s (clearReport n c s) := by
  have hedit : Writes s (s.editVehicle n (Vehicle.cleared c)) := by
    refine writes_editVehicle fun v => ?_
    cases c with
    | dewire => exact ⟨rfl, fun _ hr => hr, fun _ _ hl => .inr hl, nofun⟩
    | insulation => exact vehicleWrite_of_same
    | bounce => exact vehicleWrite_of_same
    | all => exact ⟨rfl, fun _ hr => hr, fun _ _ hl => .inr hl, nofun⟩
  unfold clearReport
  dsimp only
  split
  · exact hedit.trans (writes_reviewLeft _ _)
  · exact hedit

theorem writes_signOff (n : VehicleNumber) (s : State) : Writes s (signOff n s) := by
  unfold signOff; split
  · exact (writes_setVehicles (vehiclesWrite_filter _)).trans (writes_reviewLeft _ _)
  · exact .refl s

theorem writes_reportOnEntry {n : VehicleNumber} {r : VehicleReport} (h : r.Named s) : Writes s (reportOnEntry n r s) := by
  cases r with
  | locate i => exact writes_editVehicle fun _ => ⟨rfl, fun _ hr => hr, fun _ j hj => .inl (h j hj), fun _ hd => .inr hd⟩
  | dewire i f => exact writes_dewireReport h
  | insulation i => exact writes_insulationReport h
  | clear c => exact writes_clearReport n c s
  | signOff => exact writes_signOff n s

theorem writes_untrackedReport (r : VehicleReport) (s : State) : Writes s (untrackedReport r s) := by
  unfold untrackedReport; split
  · exact writes_addUntrackedDewire _ s
  · exact .refl s

theorem writes_takeReport {n : VehicleNumber} {r : VehicleReport} (h : r.Named s) : Writes s (takeReport n r s) := by
  unfold takeReport; split
  · exact writes_signOff n s
  · dsimp only
    split
    · have hnamed : r.Named (hearVehicle n (obtainVehicle n s).1) :=
        h.congr (obtainVehicle_sections n) (obtainVehicle_frogs n)
      exact ((writes_obtainVehicle n s).trans (writes_hearVehicle n _)).trans (writes_reportOnEntry hnamed)
    · exact (writes_obtainVehicle n s).trans (writes_untrackedReport r _)

/-! ## Ageing and the requests on entries (R118, R122, R123) -/

theorem writes_ageExpiry (n : VehicleNumber) (s : State) : Writes s (ageExpiry n s) := by
  unfold ageExpiry; split
  · exact .refl s
  · split
    · split
      · exact writes_editVehicle fun _ => vehicleWrite_of_same
      · exact writes_setVehicles (vehiclesWrite_filter _)
    · exact .refl s

theorem writes_agePeriod (n : VehicleNumber) (s : State) : Writes s (agePeriod n s) := by
  refine writes_editVehicle fun v => ?_
  split
  · exact vehicleWrite_of_same
  · exact .refl s v

theorem writes_dropDewireAt (f : FrogIx) (s : State) : Writes s (dropDewireAt f s) := by
  refine writes_setVehicles (vehiclesWrite_map fun v _ => ?_)
  split
  · exact ⟨rfl, fun _ hr => hr, fun _ _ hl => .inr hl, nofun⟩
  · exact .refl s v

theorem dropDewireAt_not_dewired (f : FrogIx) (s : State) :
    ∀ v ∈ (dropDewireAt f s).vehicles, v.dewire ≠ some (some f) := by
  intro w hw hd
  obtain ⟨v, -, rfl⟩ := List.mem_map.mp hw
  split at hd
  · cases hd
  · contradiction

theorem writes_clearReason (f : FrogIx) (r : BlockReason) (s : State) : Writes s (clearReason f r s) := by
  unfold clearReason; split
  next =>
    have hedit : Writes s (s.editFrog f fun g => { g with untracked := false }) :=
      writes_editFrog fun _ _ => frogWrite_of_same
    exact writes_noteFrog ((hedit.trans (writes_dropDewireAt f _)).trans
      (writes_removeBlock fun _ => dropDewireAt_not_dewired f _))
  next h => exact writes_noteFrog (writes_removeBlock fun hr => absurd hr h)

theorem writes_popFault {n : VehicleNumber} {v : Vehicle} {r : FaultRecord} {rest : List FaultRecord}
    (hv : s.vehicle n = some v) (hr : v.faults = r :: rest) :
    Writes s (s.editVehicle n fun w => { w with faults := rest, listLost := false }) := by
  refine writes_editVehicle fun w => ⟨rfl, fun ht _ => ?_, fun _ _ hl => .inr hl, fun _ hd => .inr hd⟩
  have hlen := ht.records v (List.mem_of_find?_eq_some hv)
  rw [hr] at hlen
  exact (Nat.le_succ _).trans hlen

/-! ## The skates (R69 to R81, R101, R102) -/

theorem writes_handBounce (f : FrogIx) (j : Judgement) (tag : Option VehicleNumber) (s : State) :
    Writes s (handBounce f j tag s) := by
  unfold handBounce; split
  · exact writes_bounceVehicle _ f s
  · exact .refl s

theorem writes_handToFrog (f : FrogIx) (j : Judgement) (tag : Option VehicleNumber) (w : Tick) (s : State) :
    Writes s (handToFrog f j tag w s) := by
  unfold handToFrog; split
  · exact writes_noteFrog (writes_takePassage f _ _ _ s)
  · exact writes_noteFrog (writes_addBlock f _ s)
  · exact .refl s

theorem writes_conclude (f : FrogIx) (s : State) : Writes s (conclude f s) := by
  unfold conclude; split
  · exact .refl s
  · exact ((writes_handBounce f _ _ s).trans (writes_handToFrog f _ _ _ _)).trans (writes_editCapture f _ _)

theorem writes_openContact (f : FrogIx) (t : Tick) (s : State) : Writes s (openContact f t s) :=
  writes_editFrog fun _ _ => frogWrite_of_same

theorem writes_entryRise (f : FrogIx) (t : Tick) (s : State) : Writes s (entryRise f t s) := by
  unfold entryRise; split
  · exact .refl s
  · split
    · exact writes_openContact f t s
    · exact .refl s
    · split
      · exact writes_editCapture f _ s
      · exact (writes_conclude f s).trans (writes_openContact f t _)

theorem writes_joinReturn (f : FrogIx) (s : State) : Writes s (joinReturn f s).1 := by
  unfold joinReturn; split
  next => exact .refl s
  next g hg =>
    split
    next h =>
      exact writes_requeue hg fun hok => frogOk_of_waiting (by simp) (by simp) fun t => (frogOk_of_nil h.1).mp hok t
    next => exact .refl s

theorem writes_handPlacement {tag : Option VehicleNumber} {i : SectionIx}
    (hi : AddressesOk s → (s.sect i).isSome = true) : Writes s (handPlacement tag i s) := by
  unfold handPlacement; split
  · exact writes_placeVehicle hi
  · exact .refl s

theorem writes_exitWork (f : FrogIx) (s : State) : Writes s (exitWork f s).1 := by
  unfold exitWork; split
  next => exact .refl s
  next g hg =>
    split
    next tag w target rest hq =>
      have hset : headSetPassage g.queue = true := by rw [hq]; rfl
      have hput : Writes s (s.putFrog f (some { g with queue := rest, exitTimer := .stopped })) :=
        writes_requeue hg fun hok => frogOk_tail hok hset (by rw [hq]; rfl) rfl
      have hplace := writes_handPlacement (tag := tag) (i := g.params.leg target)
        (s := s.putFrog f (some { g with queue := rest, exitTimer := .stopped }))
        fun ha => ha.legs f { g with queue := rest, exitTimer := .stopped } target (State.frog_putFrog_same ..)
      exact (((hput.trans hplace).followedBy (w := (_, true)) (writes_clearOverflowIfEmpty f _)).followedBy
        (writes_joinReturn f _)).followedBy (writes_checkHead f _)
    next => exact writes_addBlock f _ s

theorem writes_skateEvent (f : FrogIx) (s : State) (e : SkateEvent) : Writes s (skateEvent f s e) := by
  unfold skateEvent; split
  · exact writes_entryRise f _ s
  · exact writes_editCapture f _ s
  · exact writes_editCapture f _ s
  · exact writes_editCapture f _ s
  · exact .refl s
  · exact writes_noteFrog (writes_exitWork f s)
  · exact writes_editCapture f _ s

theorem writes_takeSkate (f : FrogIx) (l : List SkateEvent) (s : State) : Writes s (takeSkate f l s) :=
  writes_foldl (fun t e => writes_skateEvent f t e) l s

theorem writes_settleExpires (f : FrogIx) (s : State) : Writes s (settleExpires f s) := by
  unfold settleExpires; split
  · exact .refl s
  · split
    · exact writes_conclude f s
    · exact .refl s

theorem writes_holdExpires (f : FrogIx) (s : State) : Writes s (holdExpires f s) := by
  unfold holdExpires; split
  · exact .refl s
  · split
    · exact writes_noteFrog ((writes_editCapture f _ s).trans (writes_addBlock f _ _))
    · exact .refl s

theorem writes_interceptFrog (f : FrogIx) (p : List Byte) (s : State) : Writes s (interceptFrog f p s) := by
  unfold interceptFrog; split
  · exact .refl s
  · split
    · exact writes_dispatcherThrow f _ s
    · exact writes_dispatcherThrow f _ s
    · exact writes_raise _ s

end Sys2Proof.Machine
end

section
/-!
PROOFS. The work of the sections, of the test units, of the order list and of the protection engine as runs of writes: entry to
a state, attempts, breaker reports, requests, endings, and the samples of a frame.
-/

namespace Sys2Proof.Machine

variable {s t u : State}

/-! ## The law of a section but for LIVE (R5, R11, R15, R48) -/

/-- The law of a section but for LIVE's last report of CLOSED. -/
structure RestOk (x : Sect) : Prop where
  heat : x.prot.h ≤ Config.hMax
  attempts : x.attempts ≤ x.params.recloseMax
  previous : CurrentOk x.prot.iPrev
  last : CurrentOk x.prot.iLast
  threshold : ∀ w, x.prot.window = some w → CurrentOk w.base ∧ w.threshold ≤ Config.currentMax

theorem SectionOk.rest {x : Sect} (h : SectionOk x) : RestOk x := ⟨h.heat, h.attempts, h.previous, h.last, h.threshold⟩

theorem RestOk.ok {x : Sect} (h : RestOk x) (hl : x.state = .live → x.lastReport = some .closed) : SectionOk x :=
  ⟨h.heat, h.attempts, hl, h.previous, h.last, h.threshold⟩

/-- The law is about the protection record, the attempt count and the parameters. -/
theorem RestOk.congr {x y : Sect} (h : RestOk x) (hprot : y.prot = x.prot) (hn : y.attempts = x.attempts)
    (hp : y.params = x.params) : RestOk y := by
  obtain ⟨h1, h2, h3, h4, h5⟩ := h
  exact ⟨by rwa [hprot], by rwa [hn, hp], by rwa [hprot], by rwa [hprot], by rwa [hprot]⟩

/-- A section that enters a state keeps its law (R28). -/
theorem RestOk.entered {x : Sect} (h : RestOk x) (now : Time) (st : SectionState) : RestOk (x.entered now st) := by
  obtain ⟨h1, h2, h3, h4, h5⟩ := h
  unfold Sect.entered
  split
  · exact ⟨h1, h2, h3, h4, nofun⟩
  · exact ⟨h1, h2, h3, h4, h5⟩

/-! ## Writes of a section's record -/

theorem writes_putSect {i : SectionIx} {x y : Sect} (hx : s.sect i = some x) (h : SectWrite x y) :
    Writes s (s.putSect i (some y)) := (Write.sect hx h).writes

/-- A record that keeps the fields of the law. -/
theorem sectWrite_of_same {x y : Sect} (hp : y.params = x.params := by rfl) (hprot : y.prot = x.prot := by rfl)
    (hn : y.attempts = x.attempts := by rfl) (hst : y.state = x.state := by rfl)
    (hr : y.lastReport = x.lastReport := by rfl) : SectWrite x y :=
  ⟨hp, fun h => (h.rest.congr hprot hn hp).ok (by rw [hst, hr]; exact h.liveOnClosed)⟩

/-- A protection record that keeps its law. -/
theorem sectWrite_prot {x : Sect} {p : Protection} (h : RestOk x → RestOk { x with prot := p }) :
    SectWrite x { x with prot := p } :=
  ⟨rfl, fun hx => (h hx.rest).ok hx.liveOnClosed⟩

theorem writes_editSect {i : SectionIx} {k : Sect → Sect} (h : ∀ x, s.sect i = some x → SectWrite x (k x)) :
    Writes s (s.editSect i k) := by
  unfold State.editSect; split
  next x hx => exact writes_putSect hx (h x hx)
  next => exact .refl s

theorem sect_self {i : SectionIx} {x : Sect} (hx : s.sect i = some x) : s.putSect i (some x) = s := by
  have h : s.sections.set i.val (some x) i.isLt = s.sections := by
    apply Vector.ext
    intro k hk
    simp only [Vector.getElem_set]
    split
    next e => subst e; exact hx.symm
    · rfl
  simp [State.putSect, State.setSections, h]

theorem editSect_putSect (i : SectionIx) (x : Sect) (k : Sect → Sect) (s : State) :
    (s.putSect i (some x)).editSect i k = s.putSect i (some (k x)) := by
  simp [State.editSect, putSect_putSect]

/-! ## Orders and test units (R42, R49, R54 to R57) -/

theorem writes_registerFor (i : SectionIx) (k : OrderKind) (s : State) : Writes s (registerFor i k s) := by
  unfold registerFor; split
  next => exact .refl s
  next x hx => exact (Write.registered s _ _).writes.trans (writes_putSect hx sectWrite_of_same)

theorem writes_registerEntry (i : SectionIx) (st : SectionState) (s : State) : Writes s (registerEntry i st s) := by
  unfold registerEntry; split
  · exact writes_registerFor i _ s
  · exact .refl s

/-- Entry to a state other than LIVE. -/
theorem sectWrite_entered (x : Sect) (now : Time) {st : SectionState} (hst : st ≠ .live) :
    SectWrite x (x.entered now st) :=
  ⟨rfl, fun h => (h.rest.entered now st).ok fun hl => absurd hl hst⟩

theorem writes_enterTesting (i : SectionIx) (s : State) : Writes s (enterTesting i s) :=
  have hentered : Writes s (s.editSect i (Sect.entered s.partTime (.energizing .testing))) :=
    writes_editSect fun x _ => sectWrite_entered x s.partTime (by simp)
  (hentered.trans (writes_registerFor i .test _)).trans (writes_raiseSection i _)

theorem writes_putUnit (u : UnitIx) (x : TestUnit) (s : State) : Writes s (s.putUnit u x) := (Write.unit s u x).writes

theorem writes_grantUnit (u : UnitIx) (s : State) : Writes s (grantUnit u s) := by
  obtain ⟨h, -⟩ | ⟨j, -, -, h⟩ := grantUnit_cases u s
  · rw [h]; exact .refl s
  · rw [h]; exact (writes_putUnit u _ s).trans (writes_enterTesting j _)

theorem writes_leaveTest (i : SectionIx) (x : Sect) (o : TestOutcome) (s : State) : Writes s (leaveTest i x o s) := by
  unfold leaveTest; split
  · exact writes_putUnit _ _ s
  · unfold releaseUnit; split
    · exact (writes_putUnit _ _ s).trans (writes_grantUnit _ _)
    · exact .refl s
  · exact .refl s

theorem writes_checkIfPowerChanged (i : SectionIx) (b : Bool) (s : State) : Writes s (checkIfPowerChanged i b s) := by
  unfold checkIfPowerChanged; split
  · exact .refl s
  · exact writes_checkHeadsOf i s

/-! ## Entry to a state -/

/-- Entry to a state from a record `y` put in the place of `x` within the event: what is written is the record entered. -/
theorem writes_enterState_put {i : SectionIx} {x y : Sect} {st : SectionState} (fl : Option SectionFlag) (o : TestOutcome)
    (hx : s.sect i = some x) (hy : RestOk x → RestOk y) (hl : st = .live → y.lastReport = some .closed)
    (hp : y.params = x.params := by rfl) : Writes s (enterState i st fl o (s.putSect i (some y))) := by
  have hput : Writes s (s.putSect i (some (y.entered s.partTime st))) :=
    writes_putSect hx ⟨hp, fun h => ((hy h.rest).entered s.partTime st).ok hl⟩
  unfold enterState
  simp only [State.sect_putSect_same, putSect_putSect]
  have htold := (((hput.trans (writes_registerEntry i st _)).trans (writes_raiseSection i _)).trans
    (writes_raiseSupplyCleared i y st _)).trans (writes_raiseFlagSet i fl _)
  split
  · exact (htold.trans (writes_leaveTest i y o _)).trans (writes_checkIfPowerChanged i _ _)
  · exact (htold.trans (writes_checkIfPowerChanged i _ _)).trans (writes_leaveTest i y o _)

theorem writes_lockOut_put {i : SectionIx} {x y : Sect} (r : LockReason) (fl : Option SectionFlag) (o : TestOutcome)
    (hx : s.sect i = some x) (hy : RestOk x → RestOk y) (hp : y.params = x.params := by rfl) :
    Writes s (lockOut i r fl o (s.putSect i (some y))) := by
  rw [lockOut, editSect_putSect]
  exact writes_enterState_put (y := { y with lockReason := some r }) fl o hx (fun h => (hy h).congr rfl rfl rfl) nofun hp

theorem writes_openedToWait_put {i : SectionIx} {x y : Sect} (hx : s.sect i = some x) (hy : RestOk x → RestOk y)
    (hp : y.params = x.params := by rfl) : Writes s (openedToWait i (s.putSect i (some y))) := by
  unfold openedToWait
  simp only [State.sect_putSect_same]
  split
  · exact writes_lockOut_put _ _ _ hx hy hp
  · exact writes_enterState_put _ _ hx hy nofun hp

theorem writes_enterState {i : SectionIx} {st : SectionState} (fl : Option SectionFlag) (o : TestOutcome)
    (hl : st = .live → ∀ x, s.sect i = some x → x.lastReport = some .closed) : Writes s (enterState i st fl o s) := by
  cases hx : s.sect i with
  | none => rw [enterState, hx]; exact .refl s
  | some x =>
    have h := writes_enterState_put (st := st) fl o hx id (fun e => hl e x hx)
    rwa [sect_self hx] at h

theorem writes_lockOut (i : SectionIx) (r : LockReason) (fl : Option SectionFlag) (o : TestOutcome) (s : State) :
    Writes s (lockOut i r fl o s) :=
  Writes.trans (writes_editSect fun _ _ => sectWrite_of_same) (writes_enterState fl o nofun)

theorem writes_trip (i : SectionIx) (r : TripReason) (s : State) : Writes s (trip i r s) :=
  Writes.trans (writes_editSect fun _ _ => sectWrite_of_same) (writes_enterState _ _ nofun)

/-! ## Attempts (R40, R45) -/

theorem writes_passToTestWait (i : SectionIx) (s : State) : Writes s (passToTestWait i s) := by
  unfold passToTestWait; split
  next => exact .refl s
  next x hx =>
    have hput : Writes s (s.putSect i (some (x.entered s.partTime (.energizing .testWait)))) :=
      writes_putSect hx (sectWrite_entered x s.partTime (by simp))
    have hgrant := fun w : TestUnit =>
      (hput.trans (writes_putUnit x.params.testUnit w _)).trans (writes_grantUnit x.params.testUnit _)
    dsimp only
    split
    · split
      · exact (hgrant _).trans (writes_raiseSection i _)
      · exact hgrant _
    · exact hgrant _

theorem writes_coolDownCheck (i : SectionIx) (s : State) : Writes s (coolDownCheck i s) := by
  unfold coolDownCheck; split
  · split
    · exact writes_passToTestWait i s
    · exact .refl s
  · exact .refl s

theorem writes_beginAttempt {i : SectionIx} {n : Nat} (o : Origin)
    (hn : ∀ x, s.sect i = some x → n ≤ x.params.recloseMax) : Writes s (beginAttempt i o n s) := by
  unfold beginAttempt; split
  next => exact .refl s
  next x hx =>
    have hput : Writes s (s.putSect i (some { (x.entered s.partTime (.energizing .cooling)) with
        origin := some o, attempts := n })) := by
      refine writes_putSect hx ⟨rfl, fun h => ?_⟩
      obtain ⟨h1, -, h3, h4, h5⟩ := h.rest.entered s.partTime (.energizing .cooling)
      exact RestOk.ok ⟨h1, hn x hx, h3, h4, h5⟩ nofun
    dsimp only
    split
    · exact hput.trans (writes_passToTestWait i _)
    · exact hput.trans (writes_raiseSection i _)

theorem writes_failAttempt (i : SectionIx) (c : LockReason) (fl : Option SectionFlag) (o : TestOutcome) (s : State) :
    Writes s (failAttempt i c fl o s) := by
  unfold failAttempt; split
  · exact .refl s
  · split
    · split
      · exact writes_enterState fl o nofun
      · exact writes_lockOut i _ fl o s
    · exact writes_lockOut i _ fl o s

/-! ## Breaker reports, requests, results and timers (R30 to R39, R42, R43, R47, R48, R59) -/

/-- A report that is only recorded, in a state in which it keeps the law of LIVE. -/
theorem sectWrite_reported {x : Sect} {b : BreakerState} (h : x.state = .live → b = .closed) :
    SectWrite x { x with lastReport := some b } :=
  ⟨rfl, fun hx => (hx.rest.congr (y := { x with lastReport := some b }) rfl rfl rfl).ok fun hl => congrArg some (h hl)⟩

theorem writes_reportOpen {i : SectionIx} {x : Sect} (hx : s.sect i = some x) :
    Writes s (reportOpen i x (s.putSect i (some { x with lastReport := some .opened }))) := by
  have hrest : ∀ y : Sect, y.prot = x.prot → y.attempts = x.attempts → y.params = x.params → RestOk x → RestOk y :=
    fun y h1 h2 h3 h => h.congr h1 h2 h3
  unfold reportOpen
  split
  next => exact writes_enterState_put _ _ hx (hrest _ rfl rfl rfl) nofun
  next => rw [editSect_putSect]; exact writes_openedToWait_put hx (hrest _ rfl rfl rfl)
  next =>
    split
    · rw [editSect_putSect]; exact writes_enterState_put _ _ hx (hrest _ rfl rfl rfl) nofun
    · exact writes_openedToWait_put hx (hrest _ rfl rfl rfl)
  next => exact writes_enterState_put _ _ hx (hrest _ rfl rfl rfl) nofun
  next _ hl _ _ => exact writes_putSect hx (sectWrite_reported fun h => absurd h hl)

theorem writes_closeTo_put {i : SectionIx} {x y : Sect} (fl : Option SectionFlag) (hx : s.sect i = some x)
    (hy : RestOk x → RestOk y) (hl : y.lastReport = some .closed) (hp : y.params = x.params := by rfl) :
    Writes s (closeTo i fl (s.putSect i (some y))) := by
  rw [closeTo, editSect_putSect]
  refine writes_enterState_put (y := { y with attempts := 0 }) fl _ hx (fun h => ?_) (fun _ => hl) hp
  obtain ⟨h1, -, h3, h4, h5⟩ := hy h
  exact ⟨h1, Nat.zero_le _, h3, h4, h5⟩

theorem writes_reportClosed {i : SectionIx} {x : Sect} (hx : s.sect i = some x) :
    Writes s (reportClosed i x (s.putSect i (some { x with lastReport := some .closed }))) := by
  have hclose : ∀ fl, Writes s (closeTo i fl (s.putSect i (some { x with lastReport := some .closed }))) :=
    fun fl => writes_closeTo_put fl hx (fun h => h.congr rfl rfl rfl) rfl
  unfold reportClosed
  split
  · exact hclose none
  · exact hclose _
  · exact hclose _
  · exact hclose _
  · exact writes_enterState_put _ _ hx (fun h => h.congr rfl rfl rfl) fun _ => rfl
  · exact hclose _
  · exact writes_putSect hx (sectWrite_reported fun _ => rfl)

theorem writes_takeBreaker (i : SectionIx) (b : BreakerState) (s : State) : Writes s (takeBreaker i b s) := by
  unfold takeBreaker; split
  next => exact .refl s
  next x hx =>
    cases b with
    | opened => exact writes_reportOpen hx
    | closed => exact writes_reportClosed hx
    | fault =>
      dsimp only
      rw [reportFault, editSect_putSect]
      exact writes_lockOut_put _ _ _ hx fun h => h.congr rfl rfl rfl

theorem writes_isolateRequest (i : SectionIx) (k : OrderKind) (s : State) : Writes s (isolateRequest i k s) := by
  unfold isolateRequest; split
  next => exact .refl s
  next x hx =>
    have hrest : Writes s (enterState i (if x.lastReport = some .opened then .isolated else .isolating) none .abandoned s) :=
      writes_enterState _ _ (by split <;> nofun)
    dsimp only
    split
    · exact writes_raise _ s
    · exact hrest
    · exact hrest
    · exact hrest
    · exact hrest
    · exact hrest
    · exact writes_enterState _ _ nofun
    · exact writes_enterState _ _ nofun
    · exact writes_putSect hx sectWrite_of_same
    · exact .refl s
    · exact .refl s

theorem writes_energizeRequest (i : SectionIx) (s : State) : Writes s (energizeRequest i s) := by
  have hbegin : Writes s (beginAttempt i .dispatch 0 s) := writes_beginAttempt _ fun _ _ => Nat.zero_le _
  unfold energizeRequest; split
  · exact .refl s
  · split
    · exact writes_raise _ s
    · exact writes_raise _ s
    · exact writes_raise _ s
    · exact .refl s
    · exact .refl s
    · split
      · exact writes_lockOut i _ _ _ s
      · exact hbegin
    · split
      · exact writes_lockOut i _ _ _ s
      · exact hbegin
    · split
      · exact writes_lockOut i _ _ _ s
      · split
        · exact writes_lockOut i _ _ _ s
        · exact hbegin

theorem writes_interceptSection (i : SectionIx) (p : List Byte) (s : State) : Writes s (interceptSection i p s) := by
  unfold interceptSection; split
  · exact .refl s
  · split
    · exact writes_energizeRequest i s
    · exact writes_isolateRequest i _ s
    · exact writes_isolateRequest i _ s
    · exact writes_raise _ s

theorem writes_takeResult (i : SectionIx) (r : BitVec 16) (s : State) : Writes s (takeResult i r s) := by
  unfold takeResult; split
  · exact .refl s
  · split
    · split
      · exact writes_enterState _ _ nofun
      · exact writes_failAttempt i _ _ _ s
    · exact .refl s

theorem writes_sectionEnding (i : SectionIx) (k : OrderKind) (accepted : Bool) (s : State) :
    Writes s (sectionEnding i k accepted s) := by
  unfold sectionEnding; split
  · exact .refl s
  · split
    · exact .refl s
    · split
      · exact writes_failAttempt i _ _ _ s
      · split
        · exact writes_failAttempt i _ _ _ s
        · exact .refl s

theorem writes_openExpiry (i : SectionIx) (s : State) : Writes s (openExpiry i s) := by
  unfold openExpiry; split
  · exact .refl s
  · split
    · exact Writes.trans (writes_editSect fun _ _ => sectWrite_of_same) (writes_lockOut i _ _ _ _)
    · exact .refl s

theorem writes_closeExpiry (i : SectionIx) (s : State) : Writes s (closeExpiry i s) := by
  unfold closeExpiry; split
  · exact .refl s
  · split
    · exact writes_failAttempt i _ _ _ s
    · exact .refl s

theorem writes_testExpiry (i : SectionIx) (s : State) : Writes s (testExpiry i s) := by
  unfold testExpiry; split
  · exact .refl s
  · split
    · exact writes_failAttempt i _ _ _ s
    · exact .refl s

theorem writes_deadWaitExpires (i : SectionIx) (s : State) : Writes s (deadWaitExpires i s) := by
  unfold deadWaitExpires; split
  next => exact .refl s
  next x hx =>
    split
    · split
      · exact writes_lockOut i _ _ _ s
      · split
        · exact writes_lockOut i _ _ _ s
        · split
          · exact writes_lockOut i _ _ _ s
          next hn =>
            refine writes_beginAttempt _ fun y hy => ?_
            obtain rfl : x = y := by rw [hx] at hy; exact Option.some.inj hy
            omega
    · exact .refl s

theorem writes_reclaimExpires (i : SectionIx) (s : State) : Writes s (reclaimExpires i s) := by
  unfold reclaimExpires; split
  next => exact .refl s
  next x hx =>
    split
    · refine writes_putSect hx ⟨rfl, fun h => ?_⟩
      exact ⟨h.heat, Nat.zero_le _, h.liveOnClosed, h.previous, h.last, h.threshold⟩
    · exact .refl s

theorem writes_reclaimPeriod (i : SectionIx) (s : State) : Writes s (reclaimPeriod i s) := by
  unfold reclaimPeriod; split
  next => exact .refl s
  next x hx =>
    split
    · exact writes_putSect hx sectWrite_of_same
    · exact .refl s

theorem writes_silenceExpires (i : SectionIx) (s : State) : Writes s (silenceExpires i s) := by
  unfold silenceExpires; split
  next => exact .refl s
  next x hx =>
    split
    · have hput := writes_putSect hx (sectWrite_prot (x := x) (p := { x.prot with
        blind := true, synced := false, window := none, lowRun := none, silence := .stopped })
        fun h => ⟨h.heat, h.attempts, h.previous, h.last, nofun⟩)
      dsimp only
      split
      · exact hput.trans (writes_failAttempt i _ _ _ _)
      · exact hput.trans (writes_raiseFlagSet i _ _)
    · exact .refl s

/-! ## The order list after registration (R134, R137 to R140) -/

theorem writes_serveTurn (t : Turn) (s : State) : Writes s (serveTurn t s).1 := by
  have hsection : ∀ c i, Writes s (serveSection c i s).1 := by
    intro c i
    unfold serveSection; split
    · exact .refl s
    · split
      · exact .refl s
      · split
        · exact writes_registerFor i _ s
        · exact .refl s
  unfold serveTurn; split
  · exact hsection _ _
  · exact hsection _ _
  · unfold serveFrog; split
    · exact .refl s
    · split
      · dsimp only
        split
        · exact writes_noteFrog (writes_checkHead _ s)
        · exact writes_noteFrog (writes_checkHead _ s)
      · exact .refl s

theorem writes_serveTurns (l : List Turn) (s : State) : Writes s (serveTurns l s) := by
  induction l generalizing s with
  | nil => exact .refl s
  | cons t l ih =>
    unfold serveTurns; split
    · exact writes_serveTurn t s
    · exact (writes_serveTurn t s).trans (ih _)

theorem writes_tellOwner (o : Owner) (k : OrderKind) (accepted : Bool) (s : State) :
    Writes s (tellOwner o k accepted s) := by
  unfold tellOwner; split
  · exact writes_sectionEnding _ k accepted s
  · exact writes_frogEnding _ k accepted s
  · exact .refl s

theorem writes_endOrder (e : Order) (accepted : Bool) (s : State) : Writes s (endOrder e accepted s) :=
  ((Write.freed s e.target).writes.trans (writes_tellOwner _ e.kind accepted _)).trans (writes_serveTurns _ _)

theorem writes_takeAck (a : LineAddr) (q : Byte) (accepted : Bool) (s : State) : Writes s (takeAck a q accepted s) := by
  unfold takeAck; split
  · exact .refl s
  · split
    · split
      · exact writes_endOrder _ accepted s
      · exact .refl s
    · exact .refl s

theorem writes_ackExpiry (a : LineAddr) (s : State) : Writes s (ackExpiry a s) := by
  unfold ackExpiry; split
  · exact .refl s
  · split
    · split
      · exact writes_endOrder _ false s
      · exact .refl s
    · exact .refl s

/-! ## The protection engine (R5 to R23) -/

theorem currentOk_clamped (m : Sample) : CurrentOk m.clamped.current := by
  rw [clamped_current]
  constructor
  · exact le_max_left ..
  · exact max_le (by decide) (min_le_left ..)

theorem nextH_le (h ic : Nat) (i : Int) : nextH h ic i ≤ Config.hMax := by
  have := cast_nextH h ic i
  simp only [Config.hMax]
  omega

/-- The window that a sample opens or keeps open (R11, R12). -/
theorem deltaCheck_window {p : SectionParams} {n : Nat} {w v : Option Window} {iPrev i : Int}
    (hprev : CurrentOk iPrev) (hw : ∀ x, w = some x → CurrentOk x.base ∧ x.threshold ≤ Config.currentMax)
    (hv : (deltaCheck p n w iPrev i).1 = v) : ∀ x, v = some x → CurrentOk x.base ∧ x.threshold ≤ Config.currentMax := by
  subst hv
  intro x hx
  cases w with
  | none =>
    simp only [deltaCheck, openWindow] at hx
    split at hx
    · cases hx
    · cases hx
      exact ⟨hprev, min_le_right ..⟩
  | some w =>
    simp only [deltaCheck, judgeWindow] at hx
    split at hx
    · cases hx
    · split at hx
      · cases hx
      · cases hx
        exact hw w rfl

theorem sectWrite_judged (n : Nat) (x : Sect) (m : Sample) : SectWrite x (judgeSample n x m.clamped.current).1 := by
  refine ⟨rfl, fun h => RestOk.ok ⟨nextH_le .., h.attempts, currentOk_clamped m, h.last, ?_⟩ h.liveOnClosed⟩
  intro w hw
  simp only [judgeSample] at hw
  split at hw
  · exact deltaCheck_window h.previous h.threshold rfl w hw
  · exact h.threshold w hw

theorem writes_tripIf (i : SectionIx) (r : Option TripReason) (s : State) : Writes s (tripIf i r s) := by
  unfold tripIf; split
  · exact writes_trip i _ s
  · exact .refl s

theorem writes_takeSample (i : SectionIx) (s : State) (m : Sample) : Writes s (takeSample i s m) := by
  unfold takeSample; split
  next => exact .refl s
  next x hx => exact (writes_putSect hx (sectWrite_judged _ x m)).trans (writes_tripIf i _ _)

theorem writes_fillStep (i : SectionIx) (s : State) : Writes s (fillStep i s) := by
  unfold fillStep; split
  next => exact .refl s
  next x hx =>
    have hput : Writes s (s.putSect i (some { x with
        prot := { x.prot with h := nextH x.prot.h x.params.ic x.prot.iLast } })) :=
      writes_putSect hx (sectWrite_prot fun h => ⟨nextH_le .., h.attempts, h.previous, h.last, h.threshold⟩)
    exact hput.trans (writes_tripIf i _ _)

theorem writes_fillSteps (i : SectionIx) (n : Nat) (s : State) : Writes s (fillSteps i n s) := by
  induction n generalizing s with
  | zero => exact .refl s
  | succ n ih => exact (writes_fillStep i s).trans (ih _)

theorem writes_editProt {i : SectionIx} {k : Protection → Protection}
    (h : ∀ x : Sect, RestOk x → RestOk { x with prot := k x.prot }) : Writes s (s.editProt i k) :=
  writes_editSect fun x _ => sectWrite_prot (h x)

theorem writes_gapAction (i : SectionIx) (c : GapClass) (m : Sample) (s : State) :
    Writes s (gapAction i c m.clamped.current s) := by
  unfold gapAction; split
  · exact (writes_fillSteps i _ s).trans (writes_editProt fun x h => ⟨h.heat, h.attempts, h.last, h.last, nofun⟩)
  · exact writes_editProt fun x h => ⟨h.heat, h.attempts, currentOk_clamped m, h.last, nofun⟩
  · exact .refl s

theorem writes_clearBlind (i : SectionIx) (s : State) : Writes s (clearBlind i s) := by
  unfold clearBlind; split
  · split
    · exact (writes_editProt fun x h => ⟨h.heat, h.attempts, h.previous, h.last, h.threshold⟩).trans (writes_raise _ _)
    · exact .refl s
  · exact .refl s

theorem writes_evaluateSupply (i : SectionIx) (volts : List Nat) (s : State) : Writes s (evaluateSupply i volts s) := by
  unfold evaluateSupply; split
  next => exact .refl s
  next x hx =>
    have hput : ∀ lo sl, Writes s (s.putSect i (some { x with prot := { x.prot with lowRun := lo, supplyLost := sl } })) :=
      fun lo sl => writes_putSect hx (sectWrite_prot fun h => ⟨h.heat, h.attempts, h.previous, h.last, h.threshold⟩)
    split
    · split
      · dsimp only
        split
        · exact (((hput _ _).trans (writes_editProt fun x h =>
            ⟨h.heat, h.attempts, h.previous, h.last, h.threshold⟩)).trans (writes_raise _ _)).trans
            (writes_checkIfPowerChanged i _ _)
        · exact hput _ _
      · split
        · dsimp only
          split
          · exact ((hput _ _).trans (writes_raise _ _)).trans (writes_checkIfPowerChanged i _ _)
          · exact hput _ _
        · exact .refl s
    · exact .refl s

theorem writes_acceptFrame (i : SectionIx) (c : GapClass) (q : Byte) (l : List Sample) (s : State) :
    Writes s (acceptFrame i c q l s) := by
  unfold acceptFrame
  dsimp only
  have hsamples := ((writes_clearBlind i s).trans (writes_gapAction i c (l.headD { current := 0, voltage := 0 }) _)).trans
    (writes_foldl (fun t m => writes_takeSample i t m) l _)
  have hnoted := hsamples.trans (writes_editSect (i := i) (k := fun x => { x with prot := { x.prot with
    expectedSeq := q + 1, iLast := ((l.getLastD { current := 0, voltage := 0 }).clamped).current
    silence := Timer.start s.partTime x.params.silenceTime } }) fun x _ => sectWrite_prot fun h =>
      ⟨h.heat, h.attempts, h.previous, currentOk_clamped _, h.threshold⟩)
  exact (hnoted.trans (writes_evaluateSupply i _ _)).trans (writes_coolDownCheck i _)

theorem writes_takeSamples (i : SectionIx) (q : Byte) (p : List Byte) (s : State) : Writes s (takeSamples i q p s) := by
  unfold takeSamples; split
  · exact .refl s
  · split
    · exact .refl s
    · exact writes_acceptFrame i _ q _ s

end Sys2Proof.Machine
end

section
/-!
PROOFS. What one step can do: every command is an event of the sections, the frogs or the vehicles with what is left to the
filter or to the reply queue, a change by the management unit, an event of the link, or a reset, its end or its hold's
(`Did`). Every event's work is a run of writes.
-/

namespace Sys2Proof.Machine

/-! ## The events -/

/-- The events of the section controllers and of their orders. -/
inductive SectionEvent (s : State) : State → Prop
  | silence (i : SectionIx) : SectionEvent s (silenceExpires i s)
  | openTimeout (i : SectionIx) : SectionEvent s (openExpiry i s)
  | closeTimeout (i : SectionIx) : SectionEvent s (closeExpiry i s)
  | testTimeout (i : SectionIx) : SectionEvent s (testExpiry i s)
  | deadWait (i : SectionIx) : SectionEvent s (deadWaitExpires i s)
  | reclaim (i : SectionIx) : SectionEvent s (reclaimExpires i s)
  | reclaimPeriod (i : SectionIx) : SectionEvent s (reclaimPeriod i s)
  | samples (hs : s.supervising) (i : SectionIx) (q : Byte) (p : List Byte) : SectionEvent s (takeSamples i q p s)
  | breaker (hs : s.supervising) (i : SectionIx) (b : BreakerState) : SectionEvent s (takeBreaker i b s)
  | result (hs : s.supervising) (i : SectionIx) (r : BitVec 16) : SectionEvent s (takeResult i r s)
  | order (hs : s.supervising) (i : SectionIx) (p : List Byte) : SectionEvent s (interceptSection i p s)
  | ack (hs : s.supervising) (a : LineAddr) (q : Byte) (accepted : Bool) : SectionEvent s (takeAck a q accepted s)
  | ackTimeout (a : LineAddr) : SectionEvent s (ackExpiry a s)

/-- The events of the frog controllers. -/
inductive FrogEvent (s : State) : State → Prop
  | throwTimeout (f : FrogIx) : FrogEvent s (throwExpiry f s)
  | exitTimeout (f : FrogIx) : FrogEvent s (exitExpiry f s)
  | exitPeriod (f : FrogIx) : FrogEvent s (exitFirstPeriod f s)
  | position (hs : s.supervising) (f : FrogIx) (rep : PositionReport) : FrogEvent s (noteFrog f (positionWork f rep s))
  | order (hs : s.supervising) (f : FrogIx) (p : List Byte) : FrogEvent s (interceptFrog f p s)
  | block (f : FrogIx) : FrogEvent s (noteFrog f (addBlock f .dispatch s))
  | flush (f : FrogIx) : FrogEvent s (flushFrog f s)

/-- The events of the skates and of the vehicle table. -/
inductive VehicleEvent (s : State) : State → Prop
  | skate (hs : s.supervising) (f : FrogIx) (l : List SkateEvent) : VehicleEvent s (takeSkate f l s)
  | settle (f : FrogIx) : VehicleEvent s (settleExpires f s)
  | hold (f : FrogIx) : VehicleEvent s (holdExpires f s)
  | report (hs : s.supervising) {n : VehicleNumber} {r : VehicleReport} (hr : r.Named s) : VehicleEvent s (takeReport n r s)
  | age (n : VehicleNumber) : VehicleEvent s (ageExpiry n s)
  | agePeriod (n : VehicleNumber) : VehicleEvent s (agePeriod n s)
  | signOff (n : VehicleNumber) : VehicleEvent s (signOff n s)
  | clear (f : FrogIx) (r : BlockReason) : VehicleEvent s (clearReason f r s)
  | pop {n : VehicleNumber} {v : Vehicle} {r : FaultRecord} {rest : List FaultRecord} (hv : s.vehicle n = some v)
      (hr : v.faults = r :: rest) : VehicleEvent s (s.editVehicle n fun w => { w with faults := rest, listLost := false })

/-- The work of an event, if it has any. -/
inductive Event (s : State) : State → Prop
  | none : Event s s
  | ofSection {t : State} (e : SectionEvent s t) : Event s t
  | ofFrog {t : State} (e : FrogEvent s t) : Event s t
  | ofVehicle {t : State} (e : VehicleEvent s t) : Event s t

/-- What the requests of the management unit do to the configuration, the mode and the flags (R164 to R171). -/
inductive Managed (s : State) : State → Prop
  | flags : Managed s (clearFlags s)
  | mode {m : Mode} (h : m ≠ s.mode) : Managed s (changeMode m s)
  | globals (g : Globals) : Managed s (writeGlobals g s)
  | loadSection {i : SectionIx} {p : SectionParams} (hp : feederClashes i p.feederAddr s = false) (hi : s.sect i = none) :
      Managed s (raiseSection i (s.putSect i (some (Sect.starting s.mode s.partTime p))))
  | reloadSection {i : SectionIx} {p : SectionParams} {x : Sect} (hp : feederClashes i p.feederAddr s = false)
      (hx : s.sect i = some x)
      (h : x.state.resting = true ∨ p.feederAddr = x.params.feederAddr ∧ p.testUnit = x.params.testUnit) :
      Managed s (s.putSect i (some (x.reloaded p)))
  | unloadSection {i : SectionIx} {x : Sect} (hx : s.sect i = some x) (hr : x.state.resting = true)
      (hn : namedByFrog i s = false) : Managed s (unloadSect i s)
  | loadFrog {f : FrogIx} {p : FrogParams} (hp : frogReferencesOk f p s = true) (hf : s.frog f = none) :
      Managed s (s.putFrog f (some (Frog.starting p)))
  | reloadFrog {f : FrogIx} {p : FrogParams} {g : Frog} (hp : frogReferencesOk f p s = true) (hg : s.frog f = some g)
      (hr : g.resting = true) : Managed s (s.putFrog f (some (g.reloaded p)))
  | unloadFrog (f : FrogIx) : Managed s (forgetFrog f (s.putFrog f none))
  | filter (v : Vector FilterRule 32) : Managed s (s.setFilter v)
  | read (n : Nat) : Managed s (s.setFreeCount n)

/-- An executed request's verdict, by its code and arguments: only SET_MODE changes the mode. -/
inductive Judged (s : State) (code : Byte) (a : List Byte) : Verdict → Prop
  | event {w : State} (e : Event s w) (r : ResultCode) (d : List Byte) : Judged s code a (.answer w r d)
  | managed {w : State} (m : Managed s w) (hm : w.mode = s.mode ∨ code = 0x02 ∧ a.length = 1) (r : ResultCode)
      (d : List Byte) : Judged s code a (.answer w r d)
  | restart : Judged s code a (.silent (beginHold (beginReset .restart s)))

/-- What a command does to the state. -/
inductive Did (s : State) : State → Prop
  | event {w : State} (e : Event s w) : Did s w
  | filed {w : State} (e : Event s w) (p : PortId) (f : Frame) : Did s (fileFrame p f w)
  | forwarded (p : PortId) (f : Frame) : Did s (forward p f s)
  | answered {w : State} (e : Event s w) (hr : s.replies.length < Config.replyCapacity) (r : Reply) :
      Did s (w.setReplies (w.replies ++ [r]))
  | managed {w : State} (m : Managed s w) (hr : s.replies.length < Config.replyCapacity) (r : Reply) :
      Did s (w.setReplies (w.replies ++ [r]))
  | restart : Did s (beginHold (beginReset .restart s))
  | checkErr (p : PortId) : Did s (setCheckErr p s)
  | crossed (p : PortId) (bytes : List Byte) : Did s (putLine p bytes s)
  | startField : Did s (startField s)
  | startUplink : Did s (startUplink s)
  | reset (c : ResetCause) (supplyOk resetN : Bool) : Did s { beginReset c s with supplyOk, resetN }
  | resetEnd : Did s (endReset s)
  | holdEnd (straps : Byte) (autorun : Bool) : Did s (endHold straps autorun s)

variable {s t w : State}

/-! ## Requests -/

variable {code : Byte} {a : List Byte}

theorem judged_refuse (r : ResultCode) : Judged s code a (refuse r s) := .event .none r []

theorem judged_done (e : Event s w) : Judged s code a (done w) := .event e .ok []

theorem judged_managed (m : Managed s w) (hm : w.mode = s.mode := by rfl) : Judged s code a (done w) :=
  .managed m (.inl hm) .ok []

theorem judged_status : Judged s code a (requestStatus a s) := by
  unfold requestStatus; split
  · exact judged_refuse _
  · exact .managed .flags (.inl rfl) _ _

theorem judged_setMode : Judged s 0x02 a (requestSetMode a s) := by
  unfold requestSetMode; split
  · exact judged_refuse _
  next hl =>
    split
    · exact judged_refuse _
    · split
      · exact judged_done .none
      next h => exact .managed (.mode h) (.inr ⟨rfl, not_not.mp hl⟩) _ _

theorem judged_restart : Judged s code a (requestRestart a s) := by
  unfold requestRestart; split
  · exact judged_refuse _
  · exact .restart

theorem writeGlobals_mode (g : Globals) (s : State) : (writeGlobals g s).mode = s.mode := by
  have hage : (applyVehAge s.globals.vehAge g.vehAge s).mode = s.mode := by
    unfold applyVehAge; split
    · rfl
    · split <;> rfl
  unfold writeGlobals
  dsimp only
  split <;> split <;> exact hage

theorem raiseSection_mode (i : SectionIx) (s : State) : (raiseSection i s).mode = s.mode := by
  unfold raiseSection; split
  · exact raise_mode _
  · rfl

theorem judged_setGlobals : Judged s code a (requestSetGlobals a s) := by
  unfold requestSetGlobals; split
  · exact judged_refuse _
  · split
    · exact judged_refuse _
    · exact judged_managed (.globals _) (writeGlobals_mode _ s)

theorem judged_loadSection : Judged s code a (requestLoadSection a s) := by
  unfold requestLoadSection; split
  · exact judged_refuse _
  · split
    · exact judged_refuse _
    · split
      · exact judged_refuse _
      next hp =>
        split
        next hi => exact judged_managed (.loadSection (by simpa using hp) hi) (raiseSection_mode _ (s.putSect _ _))
        next x hx =>
          split
          next h =>
            refine judged_managed (.reloadSection (by simpa using hp) hx ?_)
            simp only [Bool.or_eq_true, Bool.and_eq_true, decide_eq_true_eq] at h
            exact h
          · exact judged_refuse _

theorem judged_unloadSection : Judged s code a (requestUnloadSection a s) := by
  unfold requestUnloadSection; split
  · exact judged_refuse _
  · split
    · exact judged_refuse _
    · split
      · exact judged_done .none
      next x hx =>
        split
        next h =>
          simp only [Bool.and_eq_true, Bool.not_eq_true'] at h
          exact judged_managed (.unloadSection hx h.1 h.2) (raise_mode (s := forgetSection _ (s.putSect _ none)) _)
        · exact judged_refuse _

theorem judged_loadFrog : Judged s code a (requestLoadFrog a s) := by
  unfold requestLoadFrog; split
  · exact judged_refuse _
  · split
    · exact judged_refuse _
    · split
      · exact judged_refuse _
      next hp =>
        split
        next hf => exact judged_managed (.loadFrog (by simpa using hp) hf)
        next g hg =>
          split
          next h => exact judged_managed (.reloadFrog (by simpa using hp) hg h)
          · exact judged_refuse _

theorem judged_unloadFrog : Judged s code a (requestUnloadFrog a s) := by
  unfold requestUnloadFrog; split
  · exact judged_refuse _
  · split
    · exact judged_refuse _
    · split
      · exact judged_refuse _
      · split
        · exact judged_managed (.unloadFrog _)
        · exact judged_refuse _

theorem judged_loadFilter : Judged s code a (requestLoadFilter a s) := by
  unfold requestLoadFilter; split
  · exact judged_refuse _
  · split
    · exact judged_refuse _
    · exact judged_managed (.filter _)

theorem judged_readSection : Judged s code a (requestReadSection a s) := by
  unfold requestReadSection; split
  · exact judged_refuse _
  · split
    · exact judged_refuse _
    · split
      · exact judged_refuse _
      · exact .event .none _ _

theorem judged_readFrog : Judged s code a (requestReadFrog a s) := by
  unfold requestReadFrog; split
  · exact judged_refuse _
  · split
    · exact judged_refuse _
    · split
      · exact judged_refuse _
      · exact .managed (.read _) (.inl rfl) _ _

theorem judged_readVehicle : Judged s code a (requestReadVehicle a s) := by
  unfold requestReadVehicle; split
  · exact judged_refuse _
  · split
    · exact judged_refuse _
    · split
      · exact judged_refuse _
      · exact .event .none _ _

theorem judged_readOrders : Judged s code a (requestReadOrders a s) := by
  unfold requestReadOrders; split
  · exact judged_refuse _
  · split
    · exact judged_refuse _
    · exact .event .none _ _

theorem judged_popFault : Judged s code a (requestPopFault a s) := by
  unfold requestPopFault; split
  · exact judged_refuse _
  · split
    · exact judged_refuse _
    · split
      · exact judged_refuse _
      next v hv =>
        split
        · exact judged_refuse _
        next r rest hr => exact .event (.ofVehicle (.pop hv hr)) _ _

theorem judged_signOff : Judged s code a (requestSignOff a s) := by
  unfold requestSignOff; split
  · exact judged_refuse _
  · split
    · exact judged_refuse _
    · split
      · exact judged_refuse _
      · exact judged_done (.ofVehicle (.signOff _))

theorem judged_blockFrog : Judged s code a (requestBlockFrog a s) := by
  unfold requestBlockFrog; split
  · exact judged_refuse _
  · split
    · exact judged_refuse _
    · split
      · exact judged_refuse _
      · exact judged_done (.ofFrog (.block _))

theorem judged_clearBlock : Judged s code a (requestClearBlock a s) := by
  unfold requestClearBlock; split
  · exact judged_refuse _
  · split
    · split
      · exact judged_refuse _
      · exact judged_done (.ofVehicle (.clear _ _))
    · exact judged_refuse _

theorem judged_flushFrog : Judged s code a (requestFlushFrog a s) := by
  unfold requestFlushFrog; split
  · exact judged_refuse _
  · split
    · exact judged_refuse _
    · split
      · exact judged_refuse _
      · exact judged_done (.ofFrog (.flush _))

/-- Every request is judged by its code (R162). -/
theorem judged_request (code : Byte) (a : List Byte) : Judged s code a (judgeRequest code a s) := by
  unfold judgeRequest; split
  · exact judged_status
  next h => rw [show code = 0x02 from BitVec.eq_of_toNat_eq h]; exact judged_setMode
  · exact judged_restart
  · exact judged_setGlobals
  · exact judged_loadSection
  · exact judged_unloadSection
  · exact judged_loadFrog
  · exact judged_unloadFrog
  · exact judged_loadFilter
  · exact judged_readSection
  · exact judged_readFrog
  · exact judged_readVehicle
  · exact judged_readOrders
  · exact judged_popFault
  · exact judged_signOff
  · exact judged_blockFrog
  · exact judged_clearBlock
  · exact judged_flushFrog
  · exact judged_refuse _

/-! ## Frames -/

/-- A request that is executed. -/
theorem did_judged {v : Verdict} {code : Byte} {a : List Byte} (h : Judged s code a v) (hr : s.replies.length < Config.replyCapacity)
    (dest : LineAddr) (tag : BitVec 16) : Did s (queueReply dest code tag v) := by
  cases h with
  | event e r d => exact .answered e hr _
  | managed m _ r d => exact .managed m hr _
  | restart => exact .restart

theorem did_nothing : Did s s := .event .none

theorem did_takeMgmt (f : Frame) : Did s (takeMgmt f s) := by
  unfold takeMgmt; split
  · unfold takeRequest; split
    next hr => exact did_judged (judged_request _ _) hr _ _
    · exact did_nothing
  · exact did_nothing

/-- A VEHICLE report names only what is configured (R108). -/
theorem named_of_parseVehicle {p : List Byte} {n : VehicleNumber} {r : VehicleReport}
    (h : parseVehicle (fun i => (s.sect i).isSome) (fun f => (s.frog f).isSome) p = some (n, r)) : r.Named s := by
  have hfield : ∀ {k : Nat} {ok : Fin k → Bool} {b : Byte} {o : Option (Fin k)}, parseIndexField k ok b = some o →
      ∀ j, o = some j → ok j = true := by
    intro k ok b o ho j hj
    subst hj
    unfold parseIndexField at ho
    split at ho
    · cases ho
    · split at ho
      · split at ho
        next hok => cases ho; exact hok
        · cases ho
      · cases ho
  unfold parseVehicle at h
  split at h
  · split at h
    next hi hf _ =>
      obtain ⟨r', hr, he⟩ := Option.map_eq_some_iff.mp h
      cases he
      unfold reportOf at hr
      split at hr <;> cases hr
      · exact hfield hi
      · exact ⟨hfield hi, hfield hf⟩
      · exact hfield hi
      · trivial
      · trivial
    · cases h
  · cases h

theorem event_processField (hs : s.supervising) (f : Frame) : Event s (processField f s) := by
  unfold processField; split
  · split
    · split
      · exact .ofSection (.samples hs ..)
      · exact .none
    · exact .none
  · split
    · split
      · exact .ofSection (.breaker hs ..)
      · exact .none
    · split
      · split
        · exact .ofSection (.result hs ..)
        · exact .none
      · split
        · split
          · exact .ofFrog (.position hs ..)
          · exact .none
        · split
          · split
            · exact .ofVehicle (.skate hs ..)
            · exact .none
          · split
            · split
              next h => exact .ofVehicle (.report hs (named_of_parseVehicle h))
              · exact .none
            · split
              · split
                · exact .ofSection (.ack hs ..)
                · exact .none
              · exact .none

theorem event_process (hs : s.supervising) (p : PortId) (f : Frame) : Event s (process p f s) := by
  unfold process; split
  · split
    · exact .none
    · exact event_processField hs f
  · exact .none

theorem event_intercept (hs : s.supervising) {p : PortId} {f : Frame} (h : intercept p f s = some t) : Event s t := by
  unfold intercept at h
  split at h
  · split at h
    · cases h; exact .ofSection (.order hs ..)
    · split at h
      · cases h; exact .ofFrog (.order hs ..)
      · cases h
  · cases h

theorem did_receiveFrame (hs : s.activity = .running) (p : PortId) (f : Frame) : Did s (receiveFrame p f s) := by
  unfold receiveFrame; split
  · exact did_takeMgmt f
  · split
    · exact .forwarded p f
    next hm =>
      have hsup : s.supervising := ⟨hs, hm⟩
      split
      · exact did_nothing
      · split
        next h => exact .event (event_intercept hsup h)
        · exact .filed (event_process hsup p f) p f

theorem isRunning_iff : s.isRunning = true ↔ s.activity = .running := by simp [State.isRunning]

theorem did_arriveBytes (p : PortId) (bytes : List Byte) : Did s (arriveBytes p bytes s) := by
  unfold arriveBytes; split
  next h =>
    split
    · exact did_receiveFrame (isRunning_iff.mp h) p _
    · exact .checkErr p
  · exact .crossed _ bytes

theorem did_arriveFrame (p : PortId) (f : Frame) : Did s (arriveFrame p f s) := by
  unfold arriveFrame; split
  next h =>
    split
    · exact did_receiveFrame (isRunning_iff.mp h) p f
    · exact .checkErr p
  · exact .crossed _ _

theorem did_arriveRequest (src : LineAddr) (seq code : Byte) (tag : BitVec 16) (a : List Byte) :
    Did s (arriveRequest src seq code tag a s) := did_arriveFrame _ _

/-! ## Commands and steps -/

/-- Every command does one of these things. -/
theorem did_exec (c : Instr) (s : State) : ∃ t, exec c s = .next t ∧ Did s t := by
  cases c with
  | sampleFrame dest src seq p => exact ⟨_, rfl, did_arriveFrame ..⟩
  | silenceTimerExpiry i => exact ⟨_, rfl, .event (.ofSection (.silence i))⟩
  | breakerReport dest src seq p => exact ⟨_, rfl, did_arriveFrame ..⟩
  | openTimeoutExpiry i => exact ⟨_, rfl, .event (.ofSection (.openTimeout i))⟩
  | closeTimeoutExpiry i => exact ⟨_, rfl, .event (.ofSection (.closeTimeout i))⟩
  | testTimeoutExpiry i => exact ⟨_, rfl, .event (.ofSection (.testTimeout i))⟩
  | deadWaitExpiry i => exact ⟨_, rfl, .event (.ofSection (.deadWait i))⟩
  | reclaimExpiry i => exact ⟨_, rfl, .event (.ofSection (.reclaim i))⟩
  | testResultFrame dest src seq p => exact ⟨_, rfl, did_arriveFrame ..⟩
  | orderInterceptSection dest src seq p => exact ⟨_, rfl, did_arriveFrame ..⟩
  | orderInterceptFrog dest src seq p => exact ⟨_, rfl, did_arriveFrame ..⟩
  | skateFrame dest src seq p => exact ⟨_, rfl, did_arriveFrame ..⟩
  | settleExpiry f => exact ⟨_, rfl, .event (.ofVehicle (.settle f))⟩
  | skateHoldExpiry f => exact ⟨_, rfl, .event (.ofVehicle (.hold f))⟩
  | positionReport dest src seq p => exact ⟨_, rfl, did_arriveFrame ..⟩
  | throwTimerExpiry f => exact ⟨_, rfl, .event (.ofFrog (.throwTimeout f))⟩
  | exitTimerExpiry f => exact ⟨_, rfl, .event (.ofFrog (.exitTimeout f))⟩
  | exitTimerFirstPeriodEnd f => exact ⟨_, rfl, .event (.ofFrog (.exitPeriod f))⟩
  | vehicleFrame dest src seq p => exact ⟨_, rfl, did_arriveFrame ..⟩
  | ageTimerExpiry n => exact ⟨_, rfl, .event (.ofVehicle (.age n))⟩
  | ackFrame dest src seq p => exact ⟨_, rfl, did_arriveFrame ..⟩
  | ackTimerExpiry a => exact ⟨_, rfl, .event (.ofSection (.ackTimeout a))⟩
  | fieldFrameStart => exact ⟨_, rfl, .startField⟩
  | uplinkFrameStart => exact ⟨_, rfl, .startUplink⟩
  | frameArrival p bytes => exact ⟨_, rfl, did_arriveBytes p bytes⟩
  | unknownRequest src seq tag code a => exact ⟨_, rfl, did_arriveRequest ..⟩
  | status src seq tag a => exact ⟨_, rfl, did_arriveRequest ..⟩
  | setMode src seq tag a => exact ⟨_, rfl, did_arriveRequest ..⟩
  | restart src seq tag a => exact ⟨_, rfl, did_arriveRequest ..⟩
  | setGlobals src seq tag a => exact ⟨_, rfl, did_arriveRequest ..⟩
  | loadSection src seq tag a => exact ⟨_, rfl, did_arriveRequest ..⟩
  | unloadSection src seq tag a => exact ⟨_, rfl, did_arriveRequest ..⟩
  | loadFrog src seq tag a => exact ⟨_, rfl, did_arriveRequest ..⟩
  | unloadFrog src seq tag a => exact ⟨_, rfl, did_arriveRequest ..⟩
  | loadFilter src seq tag a => exact ⟨_, rfl, did_arriveRequest ..⟩
  | readSection src seq tag a => exact ⟨_, rfl, did_arriveRequest ..⟩
  | readFrog src seq tag a => exact ⟨_, rfl, did_arriveRequest ..⟩
  | readVehicle src seq tag a => exact ⟨_, rfl, did_arriveRequest ..⟩
  | readOrders src seq tag a => exact ⟨_, rfl, did_arriveRequest ..⟩
  | popFault src seq tag a => exact ⟨_, rfl, did_arriveRequest ..⟩
  | signOffVehicle src seq tag a => exact ⟨_, rfl, did_arriveRequest ..⟩
  | blockFrog src seq tag a => exact ⟨_, rfl, did_arriveRequest ..⟩
  | clearBlock src seq tag a => exact ⟨_, rfl, did_arriveRequest ..⟩
  | flushFrog src seq tag a => exact ⟨_, rfl, did_arriveRequest ..⟩
  | powerOnReset => exact ⟨_, rfl, .reset .powerOn false _⟩
  | supplyDipReset => exact ⟨_, rfl, .reset .supplyDip false _⟩
  | resetPin => exact ⟨_, rfl, .reset .resetPin _ false⟩
  | resetEnd => exact ⟨_, rfl, .resetEnd⟩
  | startUpHoldEnd straps autorun => exact ⟨_, rfl, .holdEnd straps autorun⟩
  | reclaimPeriodEnd i => exact ⟨_, rfl, .event (.ofSection (.reclaimPeriod i))⟩
  | ageTimerPeriodEnd n => exact ⟨_, rfl, .event (.ofVehicle (.agePeriod n))⟩

/-- A step is a millisecond, or what the command at the front does. -/
theorem did_step (h : step s = .next t) : t = tick s ∨ ∃ rest, Did { s with pending := rest } t := by
  unfold step at h
  split at h
  · cases h; exact .inl rfl
  next c rest _ =>
    obtain ⟨t', ht, hd⟩ := did_exec c { s with pending := rest }
    rw [ht] at h
    cases h
    exact .inr ⟨rest, hd⟩

/-! ## Every event's work is a run of writes -/

theorem SectionEvent.writes (h : SectionEvent s t) : Writes s t := by
  cases h with
  | silence i => exact writes_silenceExpires i s
  | openTimeout i => exact writes_openExpiry i s
  | closeTimeout i => exact writes_closeExpiry i s
  | testTimeout i => exact writes_testExpiry i s
  | deadWait i => exact writes_deadWaitExpires i s
  | reclaim i => exact writes_reclaimExpires i s
  | reclaimPeriod i => exact writes_reclaimPeriod i s
  | samples _ i q p => exact writes_takeSamples i q p s
  | breaker _ i b => exact writes_takeBreaker i b s
  | result _ i r => exact writes_takeResult i r s
  | order _ i p => exact writes_interceptSection i p s
  | ack _ a q accepted => exact writes_takeAck a q accepted s
  | ackTimeout a => exact writes_ackExpiry a s

theorem FrogEvent.writes (h : FrogEvent s t) : Writes s t := by
  cases h with
  | throwTimeout f => exact writes_throwExpiry f s
  | exitTimeout f => exact writes_exitExpiry f s
  | exitPeriod f => exact writes_exitFirstPeriod f s
  | position _ f rep => exact writes_noteFrog (writes_positionWork f rep s)
  | order _ f p => exact writes_interceptFrog f p s
  | block f => exact writes_noteFrog (writes_addBlock f _ s)
  | flush f => exact writes_flushFrog f s

theorem VehicleEvent.writes (h : VehicleEvent s t) : Writes s t := by
  cases h with
  | skate _ f l => exact writes_takeSkate f l s
  | settle f => exact writes_settleExpires f s
  | hold f => exact writes_holdExpires f s
  | report _ hr => exact writes_takeReport hr
  | age n => exact writes_ageExpiry n s
  | agePeriod n => exact writes_agePeriod n s
  | signOff n => exact writes_signOff n s
  | clear f r => exact writes_clearReason f r s
  | pop hv hr => exact writes_popFault hv hr

theorem Event.writes (h : Event s t) : Writes s t := by
  cases h with
  | none => exact .refl s
  | ofSection e => exact e.writes
  | ofFrog e => exact e.writes
  | ofVehicle e => exact e.writes

/-- A law that every write keeps is kept by the event. -/
theorem Event.keeps {P : State → Prop} (h : Event s t) (hw : ∀ a b, Write a b → P a → P b) (hs : P s) : P t :=
  h.writes.keeps hw hs

end Sys2Proof.Machine
end

section
/-!
PROOFS. The laws that every step keeps, one by one: the order list (R129), the sections (R15, R30, R48), the frogs (R85, R89),
the supervised addresses (R83, R127), the vehicle table and DEWIRE (R87, R106, R117, R121), the queues (R150, R158, R163).
The statements settled stand at the end.
-/

namespace Sys2Proof.Machine

/-! ## What a step does to the tables -/

/-- The five tables and the mode are the same, and the part runs only if it ran. -/
structure SameTables (s t : State) : Prop where
  sections : t.sections = s.sections := by rfl
  units : t.units = s.units := by rfl
  frogs : t.frogs = s.frogs := by rfl
  vehicles : t.vehicles = s.vehicles := by rfl
  orders : t.orders = s.orders := by rfl
  mode : t.mode = s.mode := by rfl
  activity : t.activity = .running → s.activity = .running := by exact id

/-- What a step does to the five tables. -/
inductive Change (s : State) : State → Prop
  | event {w : State} (e : Event s w) : Change s w
  | aged (k : Vehicle → Vehicle) (hk : ∀ v, VehicleWrite s v (k v)) : Change s (s.setVehicles (s.vehicles.map k))
  | sent (a : LineAddr) (q : Byte) : Change s (markSent a q s)
  | loadSection {i : SectionIx} {p : SectionParams} (hp : feederClashes i p.feederAddr s = false) (hi : s.sect i = none) :
      Change s (s.putSect i (some (Sect.starting s.mode s.partTime p)))
  | reloadSection {i : SectionIx} {p : SectionParams} {x : Sect} (hp : feederClashes i p.feederAddr s = false)
      (hx : s.sect i = some x)
      (h : x.state.resting = true ∨ p.feederAddr = x.params.feederAddr ∧ p.testUnit = x.params.testUnit) :
      Change s (s.putSect i (some (x.reloaded p)))
  | unloadSection {i : SectionIx} {x : Sect} (hx : s.sect i = some x) (hr : x.state.resting = true)
      (hn : namedByFrog i s = false) : Change s (forgetSection i (s.putSect i none))
  | loadFrog {f : FrogIx} {p : FrogParams} (hp : frogReferencesOk f p s = true) (hf : s.frog f = none) :
      Change s (s.putFrog f (some (Frog.starting p)))
  | reloadFrog {f : FrogIx} {p : FrogParams} {g : Frog} (hp : frogReferencesOk f p s = true) (hg : s.frog f = some g)
      (hr : g.resting = true) : Change s (s.putFrog f (some (g.reloaded p)))
  | unloadFrog (f : FrogIx) : Change s (forgetFrog f (s.putFrog f none))
  | begun (mode : Mode) (now : Time) {u : State} (hsec : u.sections = s.sections) (hfrog : u.frogs = s.frogs) :
      Change s (startingState mode now u)
  | reset (c : ResetCause) : Change s (beginReset c s)

/-- A step, seen by the tables: a change of them, and then none. -/
def Steps (s t : State) : Prop := ∃ w, Change s w ∧ SameTables w t

variable {s t u w : State}

theorem SameTables.sect (h : SameTables s t) (i : SectionIx) : t.sect i = s.sect i := sect_congr h.sections i

theorem SameTables.frog (h : SameTables s t) (f : FrogIx) : t.frog f = s.frog f := frog_congr h.frogs f

theorem SameTables.unit (h : SameTables s t) (k : UnitIx) : t.unit k = s.unit k := unit_congr h.units k

theorem SameTables.refl (s : State) : SameTables s s := {}

theorem SameTables.trans (h : SameTables s t) (k : SameTables t u) : SameTables s u where
  sections := k.sections.trans h.sections
  units := k.units.trans h.units
  frogs := k.frogs.trans h.frogs
  vehicles := k.vehicles.trans h.vehicles
  orders := k.orders.trans h.orders
  mode := k.mode.trans h.mode
  activity := h.activity ∘ k.activity

theorem sameTables_of_besidePorts (h : t.besidePorts = s.besidePorts) : SameTables s t where
  sections := (congrArg State.sections h :)
  units := (congrArg State.units h :)
  frogs := (congrArg State.frogs h :)
  vehicles := (congrArg State.vehicles h :)
  orders := (congrArg State.orders h :)
  mode := (congrArg State.mode h :)
  activity := fun ht => ((congrArg State.activity h :) : t.activity = s.activity).symm.trans ht

theorem sameTables_putPort (p : PortId) (x : Port) (s : State) : SameTables s (s.putPort p x) :=
  sameTables_of_besidePorts (besidePorts_putPort p x)

theorem sameTables_raise (b : NoticeBody) (s : State) : SameTables s (raise b s) where
  sections := raise_sections b
  units := raise_units b
  frogs := raise_frogs b
  vehicles := raise_vehicles b
  orders := raise_orders b
  mode := raise_mode b
  activity := fun h => (raise_activity b).symm.trans h

theorem sameTables_raiseSection (i : SectionIx) (s : State) : SameTables s (raiseSection i s) := by
  unfold raiseSection; split
  · exact sameTables_raise _ s
  · exact .refl s

theorem steps_nothing (h : SameTables s t) : Steps s t := ⟨s, .event .none, h⟩

/-! ## Frame starts -/

theorem sameTables_sendReply (s : State) : SameTables s (sendReply s) := by
  unfold sendReply; split
  · exact SameTables.trans (t := s.setReplies _) {} (sameTables_putPort _ _ _)
  · exact .refl s

theorem sameTables_sendNotice (s : State) : SameTables s (sendNotice s) := by
  unfold sendNotice; split
  · exact SameTables.trans (t := s.setNotices _) {} (sameTables_putPort _ _ _)
  · exact .refl s

theorem sameTables_sendForward (p : PortId) (s : State) : SameTables s (sendForward p s) := by
  unfold sendForward; split
  · exact sameTables_putPort _ _ _
  · exact .refl s

theorem sameTables_originate (p : PortId) (a : LineAddr) (k : Byte) (l : List Byte) (s : State) :
    SameTables s (originate p a k l s) := sameTables_putPort p _ s

/-- Sending an order marks it SENT (R136). -/
theorem steps_sendOrder (e : Order) (s : State) : Steps s (sendOrder e s) :=
  ⟨_, .sent e.target s.field.seq, sameTables_originate _ _ _ _ _⟩

/-- A change of the ports is behind the marking of an order. -/
theorem steps_sendOrder_moved (e : Order) (p : PortId) (x : Port) (s : State) : Steps s (sendOrder e (s.putPort p x)) := by
  refine ⟨_, .sent e.target (s.putPort p x).field.seq, SameTables.trans ?_ (sameTables_originate _ _ _ _ _)⟩
  cases p <;> exact {}

theorem steps_sendByRotation (p : PortId) (s : State) : Steps s (sendByRotation p s) := by
  have hmoved : ∀ c, SameTables s (moveRotation p c s) := fun c => sameTables_putPort _ _ s
  unfold sendByRotation; split
  next c _ =>
    cases c with
    | reply => exact steps_nothing ((hmoved _).trans (sameTables_sendReply _))
    | notice => exact steps_nothing ((hmoved _).trans (sameTables_sendNotice _))
    | normalOrder =>
      unfold sendCandidate
      dsimp only
      split
      · exact steps_sendOrder_moved _ _ _ s
      · exact steps_nothing (hmoved _)
    | forward => exact steps_nothing ((hmoved _).trans (sameTables_sendForward p _))
  · exact steps_nothing (.refl s)

theorem steps_startField (s : State) : Steps s (startField s) := by
  unfold startField; split
  · split
    · exact steps_sendOrder _ s
    · exact steps_sendByRotation _ s
  · exact steps_nothing (.refl s)

theorem steps_startUplink (s : State) : Steps s (startUplink s) := by
  unfold startUplink; split
  · exact steps_sendByRotation _ s
  · exact steps_nothing (.refl s)

/-! ## Management -/

theorem steps_writeGlobals (g : Globals) (s : State) : Steps s (writeGlobals g s) := by
  have hage : Change s (applyVehAge s.globals.vehAge g.vehAge s) := by
    unfold applyVehAge; split
    · exact .aged _ fun v => vehicleWrite_of_same
    · split
      · exact .aged _ fun v => vehicleWrite_of_same
      · exact .event .none
  refine ⟨_, hage, ?_⟩
  unfold writeGlobals
  dsimp only
  split <;> split <;> exact {}

theorem Managed.steps (h : Managed s t) : Steps s t := by
  cases h with
  | flags => exact steps_nothing {}
  | mode => exact ⟨_, .begun _ _ rfl rfl, .refl _⟩
  | globals g => exact steps_writeGlobals g s
  | loadSection hp hi => exact ⟨_, .loadSection hp hi, sameTables_raiseSection _ _⟩
  | reloadSection hp hx h => exact ⟨_, .reloadSection hp hx h, .refl _⟩
  | unloadSection hx hr hn => exact ⟨_, .unloadSection hx hr hn, (sameTables_raise _ _).trans {}⟩
  | loadFrog hp hf => exact ⟨_, .loadFrog hp hf, .refl _⟩
  | reloadFrog hp hg hr => exact ⟨_, .reloadFrog hp hg hr, .refl _⟩
  | unloadFrog f => exact ⟨_, .unloadFrog f, .refl _⟩
  | filter v => exact steps_nothing {}
  | read n => exact steps_nothing {}

theorem Did.steps (h : Did s t) : Steps s t := by
  cases h with
  | event e => exact ⟨t, .event e, .refl t⟩
  | filed e p f => exact ⟨_, .event e, sameTables_of_besidePorts (besidePorts_fileFrame p f)⟩
  | forwarded p f => exact steps_nothing (sameTables_of_besidePorts (besidePorts_forward p f))
  | answered e _ r => exact ⟨_, .event e, {}⟩
  | managed m _ r =>
    obtain ⟨w, hw, hsame⟩ := m.steps
    exact ⟨w, hw, hsame.trans {}⟩
  | restart => exact ⟨_, .reset .restart, { activity := nofun }⟩
  | checkErr p => exact steps_nothing (sameTables_putPort p _ s)
  | crossed p bytes => exact steps_nothing (sameTables_putPort p _ s)
  | startField => exact steps_startField s
  | startUplink => exact steps_startUplink s
  | reset c a b => exact ⟨_, .reset c, {}⟩
  | resetEnd =>
    unfold endReset; split
    · exact steps_nothing { activity := nofun }
    · exact steps_nothing (.refl s)
  | holdEnd straps autorun =>
    unfold endHold; split
    · exact ⟨_, .begun (startMode autorun s.configKept) 0 (u := { s with
        activity := .running, straps, autorun, ownAddr := 0x7F00 + straps.zeroExtend 16 }) rfl rfl, sameTables_raise _ _⟩
    · exact steps_nothing (.refl s)

theorem steps_tick (s : State) : Steps s (tick s) := by
  cases ha : s.activity with
  | running => rw [tick_running ha]; exact ⟨_, .aged Vehicle.older fun v => vehicleWrite_of_same, {}⟩
  | resetting => rw [tick_resetting ha]; exact steps_nothing (.refl s)
  | holding n => rw [tick_holding ha]; exact steps_nothing { activity := nofun }

/-- Every step changes the tables in one of these ways, from a state with the same tables. -/
theorem steps_of_step (h : step s = .next t) : ∃ u, SameTables s u ∧ (s.activity = .running → u.activity = .running) ∧ Steps u t := by
  obtain rfl | ⟨rest, hd⟩ := did_step h
  · exact ⟨s, .refl s, id, steps_tick s⟩
  · exact ⟨{ s with pending := rest }, {}, id, hd.steps⟩

/-- A law of the tables that every change keeps is kept by every step. -/
theorem law_of_change {P : State → Prop} (hsame : ∀ a b, SameTables a b → P a → P b) (hchange : ∀ a b, Change a b → P a → P b)
    (hs : P s) (h : step s = .next t) : P t := by
  obtain ⟨u, hu, -, w, hw, ht⟩ := steps_of_step h
  exact hsame w t ht (hchange u w hw (hsame s u hu hs))

end Sys2Proof.Machine
end

section
/-!
PROOFS. The laws that every step keeps (spec/95): the order list (R129), the sections (R15, R30, R48), the frogs (R85, R89), the
supervised addresses (R83, R127), the vehicle table and DEWIRE (R87, R106, R117, R121), the queues (R150, R158, R163). The
statements settled stand at the end.
-/

namespace Sys2Proof.Machine

variable {s t : State}

/-! ## Resets and starts (R174 to R177) -/

theorem beginReset_sect (c : ResetCause) (s : State) (i : SectionIx) :
    (beginReset c s).sect i = if c.clearsConfig then none else (s.sect i).map Sect.halted := by
  unfold beginReset
  dsimp only
  split
  · simp [State.sect, clearConfig]
  · simp [State.sect, stopTimers]

theorem beginReset_frog (c : ResetCause) (s : State) (f : FrogIx) :
    (beginReset c s).frog f = if c.clearsConfig then none else (s.frog f).map Frog.halted := by
  unfold beginReset
  dsimp only
  split
  · simp [State.frog, clearConfig]
  · simp [State.frog, stopTimers]

theorem beginReset_vehicles (c : ResetCause) (s : State) :
    (beginReset c s).vehicles = s.vehicles.map fun v => { v with ageTimer := .stopped } := by
  unfold beginReset
  dsimp only
  split <;> rfl

theorem beginReset_orders (c : ResetCause) (s : State) : (beginReset c s).orders = s.orders.map Order.halted := by
  unfold beginReset
  dsimp only
  split <;> rfl

theorem beginReset_activity (c : ResetCause) (s : State) : (beginReset c s).activity = .resetting := by
  unfold beginReset
  dsimp only
  split <;> rfl

theorem startingState_sect (m : Mode) (now : Time) (s : State) (i : SectionIx) :
    (startingState m now s).sect i = (s.sect i).map fun x => Sect.starting m now x.params := by
  simp [State.sect, startingState]

theorem startingState_frog (m : Mode) (now : Time) (s : State) (f : FrogIx) :
    (startingState m now s).frog f = (s.frog f).map fun g => Frog.starting g.params := by
  simp [State.frog, startingState]

/-! ## The order list (R129) -/

theorem OrdersOk.congr (h : OrdersOk s) (ho : t.orders = s.orders) : OrdersOk t := by
  obtain ⟨h1, h2, h3⟩ := h
  exact ⟨ho ▸ h1, ho ▸ h2, ho ▸ h3⟩

/-- The law is about the targets and the kinds. -/
theorem ordersOk_map {k : Order → Order} (h : OrdersOk s) (ht : ∀ e, (k e).target = e.target)
    (hk : ∀ e, (k e).kind = e.kind) (ho : t.orders = s.orders.map k) : OrdersOk t := by
  obtain ⟨h1, h2, h3⟩ := h
  refine ⟨?_, ?_, ?_⟩
  · simpa [ho, Function.comp_def, ht] using h1
  · simpa [ho] using h2
  · simpa [ho, List.filter_map, Function.comp_def, hk] using h3

theorem ordersOk_nil (ho : t.orders = []) : OrdersOk t := by
  constructor <;> simp [ho]

theorem ordersOk_of_write (h : Write s t) (hs : OrdersOk s) : OrdersOk t := by
  cases h with
  | notice b => exact hs.congr (raise_orders b)
  | registered a k =>
    exact ⟨register_targets_nodup a k hs.targets, register_length_le a k hs.room, register_normalOrders_le a k hs.reserve⟩
  | freed a =>
    obtain ⟨h1, h2, h3⟩ := hs
    have hsub : (s.orders.filter fun e => decide (e.target ≠ a)).Sublist s.orders := List.filter_sublist
    exact ⟨h1.sublist (hsub.map _), hsub.length_le.trans h2, (hsub.filter _).length_le.trans h3⟩
  | sect => exact hs.congr rfl
  | unit => exact hs.congr rfl
  | frog => exact hs.congr rfl
  | vehicles => exact hs.congr rfl

theorem Order.halted_target (e : Order) : e.halted.target = e.target := by
  unfold Order.halted; split <;> rfl

theorem Order.halted_kind (e : Order) : e.halted.kind = e.kind := by
  unfold Order.halted; split <;> rfl

theorem ordersOk_of_change (h : Change s t) (hs : OrdersOk s) : OrdersOk t := by
  cases h with
  | event e => exact e.keeps (fun _ _ => ordersOk_of_write) hs
  | aged k _ => exact hs.congr rfl
  | sent a q =>
    refine ordersOk_map hs (fun e => ?_) (fun e => ?_) rfl
    · split <;> rfl
    · split <;> rfl
  | loadSection => exact hs.congr rfl
  | reloadSection => exact hs.congr rfl
  | unloadSection => exact hs.congr rfl
  | loadFrog => exact hs.congr rfl
  | reloadFrog => exact hs.congr rfl
  | unloadFrog => exact hs.congr rfl
  | begun => exact ordersOk_nil rfl
  | reset c => exact ordersOk_map hs Order.halted_target Order.halted_kind (beginReset_orders c s)

/-! ## The sections (R15, R30, R48) -/

theorem sectionsOk_putSect {i : SectionIx} {o : Option Sect} (hs : SectionsOk s) (ho : ∀ x, o = some x → SectionOk x) :
    SectionsOk (s.putSect i o) := by
  intro j y hy
  rw [State.sect_putSect] at hy
  split at hy
  · exact ho y hy
  · exact hs j y hy

theorem sectionsOk_of_same (h : SameTables s t) (hs : SectionsOk s) : SectionsOk t :=
  fun i x hx => hs i x (by rwa [h.sect] at hx)

theorem sectionsOk_of_write (h : Write s t) (hs : SectionsOk s) : SectionsOk t := by
  cases h with
  | notice b => exact sectionsOk_of_same (sameTables_raise b s) hs
  | sect hx h =>
    exact sectionsOk_putSect hs fun y hy => by cases hy; exact h.ok (hs _ _ hx)
  | registered => exact hs
  | freed => exact hs
  | unit => exact hs
  | frog => exact hs
  | vehicles => exact hs

theorem currentOk_zero : CurrentOk 0 := ⟨by decide, by decide⟩

/-- A section at its starting values (R2, R28). -/
theorem sectionOk_starting (m : Mode) (now : Time) (p : SectionParams) : SectionOk (Sect.starting m now p) where
  heat := Nat.zero_le _
  attempts := Nat.zero_le _
  liveOnClosed := nofun
  previous := currentOk_zero
  last := currentOk_zero
  threshold := nofun

/-- New parameters bound the attempt count anew (R3), and a new feeder leaves LIVE only where the section rests. -/
theorem sectionOk_reloaded {x : Sect} {p : SectionParams} (h : SectionOk x)
    (hp : x.state.resting = true ∨ p.feederAddr = x.params.feederAddr) : SectionOk (x.reloaded p) := by
  obtain ⟨h1, -, h3, h4, h5, h6⟩ := h
  unfold Sect.reloaded
  dsimp only
  split
  · exact ⟨h1, Nat.min_le_right .., h3, h4, h5, h6⟩
  next hf =>
    refine ⟨h1, Nat.min_le_right .., fun hl => ?_, h4, h5, nofun⟩
    obtain hp | hp := hp
    · rw [show x.state = .live from hl] at hp; cases hp
    · exact absurd hp hf

theorem sectionsOk_of_change (h : Change s t) (hs : SectionsOk s) : SectionsOk t := by
  cases h with
  | event e => exact e.keeps (fun _ _ => sectionsOk_of_write) hs
  | aged => exact hs
  | sent => exact hs
  | loadSection => exact sectionsOk_putSect hs fun x hx => by cases hx; exact sectionOk_starting ..
  | reloadSection hp hx h =>
    exact sectionsOk_putSect hs fun y hy => by cases hy; exact sectionOk_reloaded (hs _ _ hx) (h.imp_right And.left)
  | unloadSection => exact sectionsOk_putSect (o := none) hs fun x hx => by cases hx
  | loadFrog => exact hs
  | reloadFrog => exact hs
  | unloadFrog => exact hs
  | begun mode now hsec =>
    intro i y hy
    rw [startingState_sect] at hy
    obtain ⟨x, -, rfl⟩ := Option.map_eq_some_iff.mp hy
    exact sectionOk_starting ..
  | reset c =>
    intro i y hy
    rw [beginReset_sect] at hy
    split at hy
    · cases hy
    · obtain ⟨x, hx, rfl⟩ := Option.map_eq_some_iff.mp hy
      obtain ⟨h1, h2, h3, h4, h5, h6⟩ := hs i x hx
      exact ⟨h1, h2, h3, h4, h5, h6⟩

/-! ## The frogs (R85, R89) -/

theorem frogsOk_of_same (h : SameTables s t) (hs : FrogsOk s) : FrogsOk t :=
  fun f g hg => hs f g (by rwa [h.frog] at hg)

theorem frogsOk_putFrog {f : FrogIx} {o : Option Frog} (hs : FrogsOk s) (ho : ∀ g, o = some g → FrogOk g) :
    FrogsOk (s.putFrog f o) := by
  intro k g hg
  rw [State.frog_putFrog] at hg
  split at hg
  · exact ho g hg
  · exact hs k g hg

theorem frogsOk_of_write (h : Write s t) (hs : FrogsOk s) : FrogsOk t := by
  cases h with
  | notice b => exact frogsOk_of_same (sameTables_raise b s) hs
  | frog hg h => exact frogsOk_putFrog hs fun g he => by cases he; exact h.ok (hs _ _ hg)
  | registered => exact hs
  | freed => exact hs
  | unit => exact hs
  | sect => exact hs
  | vehicles => exact hs

theorem frogOk_starting (p : FrogParams) : FrogOk (Frog.starting p) :=
  (frogOk_of_nil rfl).mpr nofun

theorem frogOk_reloaded {g : Frog} (p : FrogParams) (h : FrogOk g) : FrogOk (g.reloaded p) := by
  unfold Frog.reloaded; split
  · exact h.congr rfl rfl
  · exact h.congr rfl rfl

theorem frogsOk_of_change (h : Change s t) (hs : FrogsOk s) : FrogsOk t := by
  cases h with
  | event e => exact e.keeps (fun _ _ => frogsOk_of_write) hs
  | aged => exact hs
  | sent => exact hs
  | loadSection => exact hs
  | reloadSection => exact hs
  | unloadSection => exact hs
  | loadFrog => exact frogsOk_putFrog hs fun g hg => by cases hg; exact frogOk_starting _
  | reloadFrog hp hg hr => exact frogsOk_putFrog hs fun h hh => by cases hh; exact frogOk_reloaded _ (hs _ _ hg)
  | unloadFrog f => exact frogsOk_putFrog (o := none) hs fun g hg => by cases hg
  | begun mode now hsec hfrog =>
    intro f h hh
    rw [startingState_frog] at hh
    obtain ⟨g, -, rfl⟩ := Option.map_eq_some_iff.mp hh
    exact frogOk_starting _
  | reset c =>
    intro f h hh
    rw [beginReset_frog] at hh
    split at hh
    · cases hh
    · obtain ⟨g, hg, rfl⟩ := Option.map_eq_some_iff.mp hh
      exact (hs f g hg).congr rfl rfl

/-! ## The supervised addresses (R83, R127) -/

/-- The law is about the parameters alone. -/
theorem AddressesOk.of_params (h : AddressesOk s) (hs : ∀ i, (t.sect i).map Sect.params = (s.sect i).map Sect.params)
    (hf : ∀ f, (t.frog f).map Frog.params = (s.frog f).map Frog.params) : AddressesOk t := by
  obtain ⟨h1, h2, h3, h4, h5⟩ := h
  have hsect : ∀ {i y}, t.sect i = some y → ∃ x, s.sect i = some x ∧ x.params = y.params := fun {i y} hy =>
    Option.map_eq_some_iff.mp ((hs i).symm.trans (congrArg _ hy))
  have hfrog : ∀ {f h}, t.frog f = some h → ∃ g, s.frog f = some g ∧ g.params = h.params := fun {f h} hh =>
    Option.map_eq_some_iff.mp ((hf f).symm.trans (congrArg _ hh))
  have hsome : ∀ i, (t.sect i).isSome = (s.sect i).isSome := fun i => by
    rw [← Option.isSome_map (f := Sect.params), hs, Option.isSome_map]
  constructor
  · intro i j x y hx hy hxy
    obtain ⟨x', hx', hxp⟩ := hsect hx
    obtain ⟨y', hy', hyp⟩ := hsect hy
    exact h1 i j x' y' hx' hy' (by rw [hxp, hyp, hxy])
  · intro f k g h hg hh hgh
    obtain ⟨g', hg', hgp⟩ := hfrog hg
    obtain ⟨h', hh', hhp⟩ := hfrog hh
    exact h2 f k g' h' hg' hh' (by rw [hgp, hhp, hgh])
  · intro i f x g hx hg
    obtain ⟨x', hx', hxp⟩ := hsect hx
    obtain ⟨g', hg', hgp⟩ := hfrog hg
    rw [← hxp, ← hgp]
    exact h3 i f x' g' hx' hg'
  · intro f g hg
    obtain ⟨g', hg', hgp⟩ := hfrog hg
    rw [hsome, ← hgp]
    exact h4 f g' hg'
  · intro f g r hg
    obtain ⟨g', hg', hgp⟩ := hfrog hg
    rw [hsome, ← hgp]
    exact h5 f g' r hg'

theorem params_putSect {i : SectionIx} {x y : Sect} (hx : s.sect i = some x) (h : y.params = x.params) (j : SectionIx) :
    ((s.putSect i (some y)).sect j).map Sect.params = (s.sect j).map Sect.params := by
  rw [State.sect_putSect]
  split
  next e => rw [e, hx, Option.map_some, Option.map_some, h]
  · rfl

theorem params_putFrog {f : FrogIx} {g h : Frog} (hg : s.frog f = some g) (hp : h.params = g.params) (k : FrogIx) :
    ((s.putFrog f (some h)).frog k).map Frog.params = (s.frog k).map Frog.params := by
  rw [State.frog_putFrog]
  split
  next e => rw [e, hg, Option.map_some, Option.map_some, hp]
  · rfl

theorem addressesOk_of_write (h : Write s t) (hs : AddressesOk s) : AddressesOk t := by
  cases h with
  | notice b => exact hs.congr (raise_sections b) (raise_frogs b)
  | sect hx h => exact hs.of_params (params_putSect hx h.params) fun _ => rfl
  | frog hg h => exact hs.of_params (fun _ => rfl) (params_putFrog hg h.params)
  | registered => exact hs.congr rfl rfl
  | freed => exact hs.congr rfl rfl
  | unit => exact hs.congr rfl rfl
  | vehicles => exact hs.congr rfl rfl

/-- An address that is no frog's CTRL_ADDR. -/
theorem frogAt_eq_none {a : LineAddr} : s.frogAt a = none ↔ ∀ f g, s.frog f = some g → g.params.ctrlAddr ≠ a := by
  unfold State.frogAt
  rw [List.find?_eq_none]
  constructor
  · intro h f g hg
    simpa [hg] using h f (List.mem_finRange f)
  · intro h f _
    split
    next g hg => simpa using h f g hg
    next => simp

/-- An address that is no section's FEEDER_ADDR. -/
theorem sectAt_eq_none {a : LineAddr} : s.sectAt a = none ↔ ∀ i x, s.sect i = some x → x.params.feederAddr ≠ a := by
  unfold State.sectAt
  rw [List.find?_eq_none]
  constructor
  · intro h i x hx
    simpa [hx] using h i (List.mem_finRange i)
  · intro h i _
    split
    next x hx => simpa using h i x hx
    next => simp

/-- A FEEDER_ADDR that clashes with nothing (R167). -/
theorem feederClashes_eq_false {i : SectionIx} {a : LineAddr} (h : feederClashes i a s = false) :
    (∀ j y, j ≠ i → s.sect j = some y → y.params.feederAddr ≠ a) ∧ ∀ f g, s.frog f = some g → g.params.ctrlAddr ≠ a := by
  simp only [feederClashes, Bool.or_eq_false_iff, Option.isSome_eq_false_iff, Option.isNone_iff_eq_none] at h
  obtain ⟨⟨-, hany⟩, hfrog⟩ := h
  refine ⟨fun j y hj hy => ?_, frogAt_eq_none.mp hfrog⟩
  rw [List.any_eq_false] at hany
  simpa [hj, hy] using hany j (List.mem_finRange j)

/-- The references of a LOAD_FROG that is accepted (R169). -/
theorem frogReferencesOk_iff {f : FrogIx} {p : FrogParams} : frogReferencesOk f p s = true ↔
    (s.sect p.powerSection).isSome = true ∧ (s.sect p.normalLeg).isSome = true ∧ (s.sect p.reverseLeg).isSome = true ∧
      p.ctrlAddr ≠ s.ownAddr ∧ (∀ k g, k ≠ f → s.frog k = some g → g.params.ctrlAddr ≠ p.ctrlAddr) ∧
      ∀ i x, s.sect i = some x → x.params.feederAddr ≠ p.ctrlAddr := by
  have hany : ((List.finRange 64).any fun g => decide (g ≠ f) && (match s.frog g with
      | some x => decide (x.params.ctrlAddr = p.ctrlAddr)
      | none => false)) = false ↔ ∀ k g, k ≠ f → s.frog k = some g → g.params.ctrlAddr ≠ p.ctrlAddr := by
    rw [List.any_eq_false]
    constructor
    · intro h k g hk hg
      simpa [hk, hg] using h k (List.mem_finRange k)
    · intro h k _
      by_cases hk : k = f
      · simp [hk]
      · cases hg : s.frog k with
        | none => simp
        | some g => simpa [hk] using h k g hk hg
  simp only [frogReferencesOk, Bool.and_eq_true, decide_eq_true_eq, Bool.not_eq_true', Option.isNone_iff_eq_none,
    sectAt_eq_none, and_assoc]
  constructor
  · rintro ⟨h1, h2, h3, h4, h5, h6⟩
    exact ⟨h1, h2, h3, h4, hany.mp h5, h6⟩
  · rintro ⟨h1, h2, h3, h4, h5, h6⟩
    exact ⟨h1, h2, h3, h4, hany.mpr h5, h6⟩

/-- A section with a FEEDER_ADDR that clashes with nothing joins, or is changed to it. -/
theorem addressesOk_putSect {i : SectionIx} {y : Sect} (hs : AddressesOk s)
    (hp : feederClashes i y.params.feederAddr s = false) : AddressesOk (s.putSect i (some y)) := by
  obtain ⟨h1, h2, h3, h4, h5⟩ := hs
  obtain ⟨hother, hfrog⟩ := feederClashes_eq_false hp
  have hsome : ∀ j, (s.sect j).isSome = true → ((s.putSect i (some y)).sect j).isSome = true := fun j hj => by
    rw [State.sect_putSect]; split
    · rfl
    · exact hj
  refine ⟨fun j k a b ha hb hab => ?_, h2, fun j f a g ha hg => ?_, fun f g hg => hsome _ (h4 f g hg),
    fun f g r hg => hsome _ (h5 f g r hg)⟩
  · rw [State.sect_putSect] at ha hb
    split at ha <;> split at hb
    · next e e' => rw [e, e']
    · next hk => cases ha; exact absurd hab.symm (hother k b hk hb)
    · next hj _ => cases hb; exact absurd hab (hother j a hj ha)
    · exact h1 j k a b ha hb hab
  · rw [State.sect_putSect] at ha
    split at ha
    · cases ha; exact (hfrog f g hg).symm
    · exact h3 j f a g ha hg

theorem addressesOk_putFrog {f : FrogIx} {h : Frog} (hs : AddressesOk s) (hp : frogReferencesOk f h.params s = true) :
    AddressesOk (s.putFrog f (some h)) := by
  obtain ⟨h1, h2, h3, h4, h5⟩ := hs
  obtain ⟨hpower, hnormal, hreverse, -, hother, hsect⟩ := frogReferencesOk_iff.mp hp
  refine ⟨h1, fun k l a b ha hb hab => ?_, fun i k x a hx ha => ?_, fun k a ha => ?_, fun k a r ha => ?_⟩
  · rw [State.frog_putFrog] at ha hb
    split at ha <;> split at hb
    · next e e' => rw [e, e']
    · next hl => cases ha; exact absurd hab.symm (hother l b hl hb)
    · next hk _ => cases hb; exact absurd hab (hother k a hk ha)
    · exact h2 k l a b ha hb hab
  · rw [State.frog_putFrog] at ha
    split at ha
    · cases ha; exact hsect i x hx
    · exact h3 i k x a hx ha
  · rw [State.frog_putFrog] at ha
    split at ha
    · cases ha; exact hpower
    · exact h4 k a ha
  · rw [State.frog_putFrog] at ha
    split at ha
    · cases ha
      cases r with
      | normal => exact hnormal
      | reverse => exact hreverse
    · exact h5 k a r ha

/-- A section that no frog names leaves (R168). -/
theorem addressesOk_unloadSection {i : SectionIx} (hs : AddressesOk s) (hn : namedByFrog i s = false) :
    AddressesOk (s.putSect i none) := by
  obtain ⟨h1, h2, h3, h4, h5⟩ := hs
  have hkept : ∀ {j x}, (s.putSect i none).sect j = some x → s.sect j = some x := fun {j x} hx => by
    rw [State.sect_putSect] at hx
    split at hx
    · cases hx
    · exact hx
  have hnamed : ∀ f g, s.frog f = some g → g.params.powerSection ≠ i ∧ ∀ r, g.params.leg r ≠ i := by
    intro f g hg
    rw [namedByFrog, List.any_eq_false] at hn
    have := hn f (List.mem_finRange f)
    simp only [hg, FrogParams.names, Bool.or_eq_true, decide_eq_true_eq, not_or] at this
    obtain ⟨⟨hp, hl⟩, hr⟩ := this
    exact ⟨hp, fun r => by cases r <;> assumption⟩
  have hsome : ∀ j, j ≠ i → (s.sect j).isSome = true → ((s.putSect i none).sect j).isSome = true := fun j hj h => by
    rw [State.sect_putSect, if_neg hj]; exact h
  exact ⟨fun j k x y hx hy => h1 j k x y (hkept hx) (hkept hy), h2, fun j f x g hx hg => h3 j f x g (hkept hx) hg,
    fun f g hg => hsome _ (hnamed f g hg).1 (h4 f g hg), fun f g r hg => hsome _ ((hnamed f g hg).2 r) (h5 f g r hg)⟩

theorem addressesOk_unloadFrog {f : FrogIx} (hs : AddressesOk s) : AddressesOk (s.putFrog f none) := by
  obtain ⟨h1, h2, h3, h4, h5⟩ := hs
  have hkept : ∀ {k g}, (s.putFrog f none).frog k = some g → s.frog k = some g := fun {k g} hg => by
    rw [State.frog_putFrog] at hg
    split at hg
    · cases hg
    · exact hg
  exact ⟨h1, fun k l a b ha hb => h2 k l a b (hkept ha) (hkept hb), fun i k x a hx ha => h3 i k x a hx (hkept ha),
    fun k a ha => h4 k a (hkept ha), fun k a r ha => h5 k a r (hkept ha)⟩

/-- With nothing configured the law asks nothing. -/
theorem addressesOk_of_none (hs : ∀ i, t.sect i = none) (hf : ∀ f, t.frog f = none) : AddressesOk t := by
  constructor <;> simp [hs, hf]

theorem Sect.reloaded_params (p : SectionParams) (x : Sect) : (x.reloaded p).params = p := by
  unfold Sect.reloaded
  dsimp only
  split <;> rfl

theorem Frog.reloaded_params (p : FrogParams) (g : Frog) : (g.reloaded p).params = p := by
  unfold Frog.reloaded; split <;> rfl

theorem addressesOk_of_change (h : Change s t) (hs : AddressesOk s) : AddressesOk t := by
  cases h with
  | event e => exact e.keeps (fun _ _ => addressesOk_of_write) hs
  | aged => exact hs.congr rfl rfl
  | sent => exact hs.congr rfl rfl
  | loadSection hp => exact addressesOk_putSect hs hp
  | reloadSection hp => exact addressesOk_putSect hs (by rwa [Sect.reloaded_params])
  | unloadSection hx hr hn => exact (addressesOk_unloadSection hs hn).congr rfl rfl
  | loadFrog hp => exact addressesOk_putFrog hs hp
  | reloadFrog hp => exact addressesOk_putFrog hs (by rwa [Frog.reloaded_params])
  | unloadFrog f => exact (addressesOk_unloadFrog hs).congr rfl rfl
  | begun mode now hsec hfrog =>
    refine hs.of_params (fun i => ?_) (fun f => ?_)
    · rw [startingState_sect, sect_congr hsec, Option.map_map]; rfl
    · rw [startingState_frog, frog_congr hfrog, Option.map_map]; rfl
  | reset c =>
    cases hc : c.clearsConfig with
    | true => exact addressesOk_of_none (fun i => by rw [beginReset_sect, hc]; rfl) fun f => by rw [beginReset_frog, hc]; rfl
    | false =>
      refine hs.of_params (fun i => ?_) (fun f => ?_)
      · rw [beginReset_sect, hc, if_neg nofun, Option.map_map]; rfl
      · rw [beginReset_frog, hc, if_neg nofun, Option.map_map]; rfl

end Sys2Proof.Machine
end

section
/-!
PROOFS. The vehicle table (R106, R117), DEWIRE in the block sets (R87, R121) and the queues (R150, R158, R163) at every step,
and with them the laws kept by every step. The statements settled stand at the end.
-/

namespace Sys2Proof.Machine

variable {s t : State}

/-! ## The vehicle table (R106, R117) -/

theorem write_activity (h : Write s t) : t.activity = s.activity := by
  cases h with
  | notice b => exact raise_activity b
  | registered => rfl
  | freed => rfl
  | sect => rfl
  | unit => rfl
  | frog => rfl
  | vehicles => rfl

theorem VehiclesOk.tableOk (h : VehiclesOk s) : TableOk s.vehicles := ⟨h.room, h.numbers, h.records⟩

theorem TableOk.vehiclesOk (h : TableOk s.vehicles)
    (hp : s.activity = .running → ∀ v ∈ s.vehicles, ∀ i, v.located = some i → (s.sect i).isSome = true) : VehiclesOk s :=
  ⟨h.room, h.numbers, h.records, hp⟩

/-- The same table, while no section leaves. -/
theorem VehiclesOk.mono (h : VehiclesOk s) (hv : t.vehicles = s.vehicles) (ha : t.activity = .running → s.activity = .running)
    (hs : ∀ i, (s.sect i).isSome = true → (t.sect i).isSome = true) : VehiclesOk t := by
  obtain ⟨h1, h2, h3, h4⟩ := h
  refine TableOk.vehiclesOk (by rw [hv]; exact ⟨h1, h2, h3⟩) fun hrun v hv' i hi => ?_
  rw [hv] at hv'
  exact hs i (h4 (ha hrun) v hv' i hi)

theorem vehiclesOk_of_same (h : SameTables s t) (hs : VehiclesOk s) : VehiclesOk t :=
  hs.mono h.vehicles h.activity fun i hi => by rwa [h.sect]

theorem isSome_putSect (i : SectionIx) (y : Sect) (j : SectionIx) (h : (s.sect j).isSome = true) :
    ((s.putSect i (some y)).sect j).isSome = true := by
  rw [State.sect_putSect]; split
  · rfl
  · exact h

theorem vehiclesOk_of_write (h : Write s t) (ha : AddressesOk s) (hs : VehiclesOk s) : VehiclesOk t := by
  cases h with
  | notice b => exact vehiclesOk_of_same (sameTables_raise b s) hs
  | sect => exact hs.mono rfl id fun j => isSome_putSect _ _ j
  | @vehicles l h =>
    refine TableOk.vehiclesOk (s := s.setVehicles l) (h.table hs.tableOk) fun hrun v hv i hi => ?_
    obtain hsome | ⟨w, hw, hwi⟩ := h.places ha v hv i hi
    · exact hsome
    · exact hs.places hrun w hw i hwi
  | registered => exact hs.mono rfl id fun _ => id
  | freed => exact hs.mono rfl id fun _ => id
  | unit => exact hs.mono rfl id fun _ => id
  | frog => exact hs.mono rfl id fun _ => id

theorem write_aged (k : Vehicle → Vehicle) (hk : ∀ v, VehicleWrite s v (k v)) :
    Write s (s.setVehicles (s.vehicles.map k)) := .vehicles (vehiclesWrite_map fun v _ => hk v)

/-- An entry may change anything but its number and the count of its records while the part does not run. -/
theorem tableOk_map {l : List Vehicle} {k : Vehicle → Vehicle} (h : TableOk l) (hn : ∀ v, (k v).number = v.number)
    (hr : ∀ v, (k v).faults = v.faults) : TableOk (l.map k) := by
  obtain ⟨h1, h2, h3⟩ := h
  refine ⟨by simpa using h1, by simpa [Function.comp_def, hn] using h2, fun w hw => ?_⟩
  obtain ⟨v, hv, rfl⟩ := List.mem_map.mp hw
  rw [hr]
  exact h3 v hv

theorem vehiclesOk_unloadSection {i : SectionIx} (hs : VehiclesOk s) : VehiclesOk (forgetSection i (s.putSect i none)) := by
  refine TableOk.vehiclesOk (tableOk_map hs.tableOk (fun v => ?_) fun v => ?_) fun hrun w hw j hj => ?_
  · split <;> rfl
  · split <;> rfl
  · obtain ⟨v, hv, rfl⟩ := List.mem_map.mp hw
    split at hj
    · cases hj
    next hne =>
      have hji : j ≠ i := fun e => hne (e ▸ hj)
      have hsome := hs.places hrun v hv j hj
      change ((s.putSect i none).sect j).isSome = true
      rwa [State.sect_putSect, if_neg hji]

theorem vehiclesOk_of_change (h : Change s t) (ha : AddressesOk s) (hs : VehiclesOk s) : VehiclesOk t := by
  cases h with
  | event e =>
    exact (e.keeps (P := fun a => AddressesOk a ∧ VehiclesOk a)
      (fun _ _ hw hp => ⟨addressesOk_of_write hw hp.1, vehiclesOk_of_write hw hp.1 hp.2⟩) ⟨ha, hs⟩).2
  | aged k hk => exact vehiclesOk_of_write (write_aged k hk) ha hs
  | sent => exact hs.mono rfl id fun _ => id
  | loadSection => exact hs.mono rfl id fun j => isSome_putSect _ _ j
  | reloadSection => exact hs.mono rfl id fun j => isSome_putSect _ _ j
  | unloadSection => exact vehiclesOk_unloadSection hs
  | loadFrog => exact hs.mono rfl id fun _ => id
  | reloadFrog => exact hs.mono rfl id fun _ => id
  | unloadFrog f =>
    refine TableOk.vehiclesOk (tableOk_map hs.tableOk (fun v => ?_) fun v => ?_) fun hrun w hw j hj => ?_
    · split <;> rfl
    · split <;> rfl
    · obtain ⟨v, hv, rfl⟩ := List.mem_map.mp hw
      refine hs.places hrun v hv j ?_
      split at hj <;> exact hj
  | begun mode now => exact ⟨Nat.zero_le _, List.nodup_nil, by simp [startingState], by simp [startingState]⟩
  | reset c =>
    refine TableOk.vehiclesOk ?_ fun hrun => ?_
    · rw [beginReset_vehicles]
      exact tableOk_map hs.tableOk (fun _ => rfl) fun _ => rfl
    · rw [beginReset_activity] at hrun; cases hrun

/-! ## DEWIRE (R87, R121) -/

/-- The same table, while no frog with DEWIRE at a dewired vehicle loses it. -/
theorem DewireOk.mono (h : DewireOk s) (hv : t.vehicles = s.vehicles) (ha : t.activity = .running → s.activity = .running)
    (hf : ∀ f g, s.frog f = some g → g.blocks.dewire = true → (∃ v ∈ s.vehicles, v.dewire = some (some f)) →
      ∃ k, t.frog f = some k ∧ k.blocks.dewire = true) : DewireOk t := by
  intro hrun v hv' f hd
  rw [hv] at hv'
  obtain ⟨g, hg, hb⟩ := h (ha hrun) v hv' f hd
  exact hf f g hg hb ⟨v, hv', hd⟩

theorem dewireOk_of_same (h : SameTables s t) (hs : DewireOk s) : DewireOk t :=
  hs.mono h.vehicles h.activity fun f g hg hb _ => ⟨g, by rwa [h.frog], hb⟩

/-- Frog `f`'s record is replaced by one that keeps DEWIRE. -/
theorem dewireOk_putFrog {f : FrogIx} {k : Frog} (hs : DewireOk s)
    (hk : ∀ g, s.frog f = some g → g.blocks.dewire = true → (∃ v ∈ s.vehicles, v.dewire = some (some f)) →
      k.blocks.dewire = true) : DewireOk (s.putFrog f (some k)) := by
  refine hs.mono rfl id fun l g hg hb hv => ?_
  rw [State.frog_putFrog]
  split
  next e => subst e; exact ⟨k, rfl, hk g hg hb hv⟩
  · exact ⟨g, hg, hb⟩

theorem dewireOk_of_write (h : Write s t) (hs : DewireOk s) : DewireOk t := by
  cases h with
  | notice b => exact dewireOk_of_same (sameTables_raise b s) hs
  | frog hg h =>
    refine dewireOk_putFrog hs fun g' hg' hb ⟨v, hv, hd⟩ => ?_
    rw [hg] at hg'
    cases hg'
    obtain hk | hnone := h.dewire hb
    · exact hk
    · exact absurd hd (hnone v hv)
  | @vehicles l h =>
    intro hrun v hv f hd
    obtain hg | ⟨w, hw, hwd⟩ := h.dewires v hv f hd
    · exact hg
    · exact hs hrun w hw f hwd
  | registered => exact hs
  | freed => exact hs
  | sect => exact hs
  | unit => exact hs

theorem dewireOk_unloadFrog {f : FrogIx} (hs : DewireOk s) : DewireOk (forgetFrog f (s.putFrog f none)) := by
  intro hrun w hw k hk
  obtain ⟨v, hv, rfl⟩ := List.mem_map.mp hw
  split at hk
  · cases hk
  next hne =>
    have hkf : k ≠ f := fun e => hne (e ▸ hk)
    obtain ⟨g, hg, hb⟩ := hs hrun v hv k hk
    refine ⟨g, ?_, hb⟩
    change (s.putFrog f none).frog k = some g
    rw [State.frog_putFrog, if_neg hkf]
    exact hg

theorem dewireOk_of_change (h : Change s t) (hs : DewireOk s) : DewireOk t := by
  cases h with
  | event e => exact e.keeps (fun _ _ => dewireOk_of_write) hs
  | aged k hk => exact dewireOk_of_write (write_aged k hk) hs
  | sent => exact hs
  | loadSection => exact hs
  | reloadSection => exact hs
  | unloadSection =>
    intro hrun w hw k hk
    obtain ⟨v, hv, rfl⟩ := List.mem_map.mp hw
    refine hs hrun v hv k ?_
    split at hk <;> exact hk
  | loadFrog hp hf => exact dewireOk_putFrog hs fun g hg => by rw [hf] at hg; cases hg
  | reloadFrog hp hg hr =>
    refine dewireOk_putFrog hs fun g' hg' hb _ => ?_
    rw [hg] at hg'
    cases hg'
    unfold Frog.reloaded
    split <;> exact hb
  | unloadFrog f => exact dewireOk_unloadFrog hs
  | begun mode now => exact fun _ v hv => absurd hv (by simp [startingState])
  | reset c => exact fun hrun => by rw [beginReset_activity] at hrun; cases hrun

/-! ## The queues (R150, R158, R163) -/

/-- No queue grows. -/
theorem QueuesOk.mono (h : QueuesOk s) (hn : t.notices.length ≤ s.notices.length := by exact le_rfl)
    (hr : t.replies.length ≤ s.replies.length := by exact le_rfl)
    (hu : t.uplink.forward.length ≤ s.uplink.forward.length := by exact le_rfl)
    (hf : t.field.forward.length ≤ s.field.forward.length := by exact le_rfl) : QueuesOk t :=
  ⟨hn.trans h.notices, hr.trans h.replies, hu.trans h.uplink, hf.trans h.field⟩

theorem queuesOk_raise (b : NoticeBody) (h : QueuesOk s) : QueuesOk (raise b s) := by
  obtain ⟨-, e⟩ | ⟨-, hl, e⟩ | ⟨-, -, e⟩ := raise_cases b s
  · rw [e]; exact h
  · rw [e]
    refine ⟨?_, h.replies, h.uplink, h.field⟩
    simp only [State.setNotices, List.length_append, List.length_singleton, Config.noticeCapacity]
    omega
  · rw [e]; exact h.mono

theorem queuesOk_raiseSection (i : SectionIx) (h : QueuesOk s) : QueuesOk (raiseSection i s) := by
  unfold raiseSection; split
  · exact queuesOk_raise _ h
  · exact h

theorem queuesOk_of_write (h : Write s t) (hs : QueuesOk s) : QueuesOk t := by
  cases h with
  | notice b => exact queuesOk_raise b hs
  | registered => exact hs.mono
  | freed => exact hs.mono
  | sect => exact hs.mono
  | unit => exact hs.mono
  | frog => exact hs.mono
  | vehicles => exact hs.mono

/-- A port is replaced by one whose forward queue is within its capacity. -/
theorem queuesOk_putPort {p : PortId} {x : Port} (h : QueuesOk s) (hx : x.forward.length ≤ Config.forwardCapacity) :
    QueuesOk (s.putPort p x) := by
  cases p with
  | uplink => exact ⟨h.notices, h.replies, hx, h.field⟩
  | field => exact ⟨h.notices, h.replies, h.uplink, hx⟩

theorem QueuesOk.port (h : QueuesOk s) (p : PortId) : (s.port p).forward.length ≤ Config.forwardCapacity := by
  cases p with
  | uplink => exact h.uplink
  | field => exact h.field

theorem queuesOk_forward (p : PortId) (f : Frame) (h : QueuesOk s) : QueuesOk (forward p f s) := by
  obtain ⟨hl, e⟩ | ⟨-, e⟩ := forward_cases p f s
  · rw [e]
    exact queuesOk_putPort h (by simp only [List.length_append, List.length_singleton, Config.forwardCapacity]; omega)
  · rw [e]; exact queuesOk_putPort h (h.port p)

theorem queuesOk_fileFrame (p : PortId) (f : Frame) (h : QueuesOk s) : QueuesOk (fileFrame p f s) := by
  unfold fileFrame; split
  · exact h
  · exact queuesOk_forward p f h

theorem queuesOk_sendOrder (e : Order) (h : QueuesOk s) : QueuesOk (sendOrder e s) := by
  have hmarked : QueuesOk (markSent e.target s.field.seq s) := h.mono
  exact queuesOk_putPort (p := .field) hmarked (hmarked.port .field)

theorem queuesOk_sendCandidate (p : PortId) (c : Candidate) (h : QueuesOk s) : QueuesOk (sendCandidate p c s) := by
  have hport : ∀ {q : PortId} {u : State}, QueuesOk u → ∀ l n, QueuesOk (u.putPort q { u.port q with line := l, seq := n }) :=
    fun {q u} hu l n => queuesOk_putPort hu (hu.port q)
  cases c with
  | reply =>
    unfold sendCandidate sendReply
    dsimp only
    split
    next r rest hr => exact hport (h.mono (hr := by rw [hr]; simp [State.setReplies])) _ _
    · exact h
  | notice =>
    unfold sendCandidate sendNotice
    dsimp only
    split
    next n rest hn => exact hport (h.mono (hn := by rw [hn]; simp [State.setNotices])) _ _
    · exact h
  | normalOrder =>
    unfold sendCandidate
    dsimp only
    split
    · exact queuesOk_sendOrder _ h
    · exact h
  | forward =>
    unfold sendCandidate sendForward
    dsimp only
    split
    next f rest hf =>
      refine queuesOk_putPort h (le_trans ?_ (h.port p))
      rw [hf]
      simp
    · exact h

theorem queuesOk_sendByRotation (p : PortId) (h : QueuesOk s) : QueuesOk (sendByRotation p s) := by
  unfold sendByRotation; split
  · exact queuesOk_sendCandidate p _ (queuesOk_putPort h (h.port p))
  · exact h

theorem queuesOk_startField (h : QueuesOk s) : QueuesOk (startField s) := by
  unfold startField; split
  · split
    · exact queuesOk_sendOrder _ h
    · exact queuesOk_sendByRotation _ h
  · exact h

theorem queuesOk_startUplink (h : QueuesOk s) : QueuesOk (startUplink s) := by
  unfold startUplink; split
  · exact queuesOk_sendByRotation _ h
  · exact h

/-- The queues start empty (R177). -/
theorem queuesOk_startingState (m : Mode) (now : Time) (s : State) : QueuesOk (startingState m now s) := by
  constructor <;> simp [startingState, Port.starting]

theorem queuesOk_writeGlobals (g : Globals) (h : QueuesOk s) : QueuesOk (writeGlobals g s) := by
  have hage : ∀ a b, QueuesOk (applyVehAge a b s) := fun a b => by
    unfold applyVehAge; split
    · exact h.mono
    · split
      · exact h.mono
      · exact h
  unfold writeGlobals
  dsimp only
  split <;> split <;> exact (hage _ _).mono

theorem queuesOk_managed (h : Managed s t) (hs : QueuesOk s) : QueuesOk t := by
  cases h with
  | flags => exact hs.mono
  | mode => exact queuesOk_startingState ..
  | globals g => exact queuesOk_writeGlobals g hs
  | loadSection hp hi => exact queuesOk_raiseSection _ (QueuesOk.mono hs)
  | reloadSection => exact hs.mono
  | @unloadSection i =>
    have hraised := fun b => queuesOk_raise b (hs.mono (t := forgetSection i (s.putSect i none)))
    exact (hraised _).mono (t := unloadSect i s)
  | loadFrog => exact hs.mono
  | reloadFrog => exact hs.mono
  | unloadFrog => exact hs.mono
  | filter => exact hs.mono
  | read => exact hs.mono

theorem queuesOk_beginReset (c : ResetCause) (h : QueuesOk s) : QueuesOk (beginReset c s) := by
  unfold beginReset
  dsimp only
  split <;> exact h.mono

theorem write_replies (h : Write s t) : t.replies = s.replies := by
  cases h with
  | notice b => exact raise_replies b
  | registered => rfl
  | freed => rfl
  | sect => rfl
  | unit => rfl
  | frog => rfl
  | vehicles => rfl

/-- An event's work forms no reply. -/
theorem Event.replies (h : Event s t) : t.replies = s.replies :=
  h.keeps (P := fun a => a.replies = s.replies) (fun _ _ hw ha => (write_replies hw).trans ha) rfl

/-- No request forms more than its own reply. -/
theorem managed_replies (h : Managed s t) : t.replies.length ≤ s.replies.length := by
  cases h with
  | globals g =>
    unfold writeGlobals applyVehAge
    dsimp only
    split <;> split <;> split <;> try split
    all_goals exact le_rfl
  | mode => exact Nat.zero_le _
  | loadSection hp hi =>
    unfold raiseSection; split
    · rw [raise_replies]; exact le_rfl
    · exact le_rfl
  | unloadSection => exact (congrArg List.length (raise_replies (s := forgetSection _ (s.putSect _ none)) _)).le
  | flags => exact le_rfl
  | reloadSection => exact le_rfl
  | loadFrog => exact le_rfl
  | reloadFrog => exact le_rfl
  | unloadFrog => exact le_rfl
  | filter => exact le_rfl
  | read => exact le_rfl

/-- A reply joins a queue of at most 3 (R161). -/
theorem queuesOk_reply (r : Reply) (h : QueuesOk s) (hl : s.replies.length < Config.replyCapacity) :
    QueuesOk (s.setReplies (s.replies ++ [r])) := by
  refine ⟨h.notices, ?_, h.uplink, h.field⟩
  simp only [State.setReplies, List.length_append, List.length_singleton]
  omega

theorem queuesOk_did (h : Did s t) (hs : QueuesOk s) : QueuesOk t := by
  have hevent : ∀ {w}, Event s w → QueuesOk w := fun e => e.keeps (fun _ _ => queuesOk_of_write) hs
  cases h with
  | event e => exact hevent e
  | filed e p f => exact queuesOk_fileFrame p f (hevent e)
  | forwarded p f => exact queuesOk_forward p f hs
  | answered e hr r => exact queuesOk_reply r (hevent e) (by rwa [e.replies])
  | managed m hr r => exact queuesOk_reply r (queuesOk_managed m hs) ((managed_replies m).trans_lt hr)
  | restart => exact (queuesOk_beginReset .restart hs).mono
  | checkErr p => exact queuesOk_putPort hs (hs.port p)
  | crossed p bytes => exact queuesOk_putPort hs (hs.port p)
  | startField => exact queuesOk_startField hs
  | startUplink => exact queuesOk_startUplink hs
  | reset c => exact (queuesOk_beginReset c hs).mono
  | resetEnd =>
    unfold endReset; split
    · exact hs.mono
    · exact hs
  | holdEnd straps autorun =>
    unfold endHold; split
    · exact queuesOk_raise _ (queuesOk_startingState ..)
    · exact hs

theorem queuesOk_tick (hs : QueuesOk s) : QueuesOk (tick s) := by
  cases ha : s.activity with
  | running => rw [tick_running ha]; exact hs.mono
  | resetting => rw [tick_resetting ha]; exact hs
  | holding n => rw [tick_holding ha]; exact hs.mono

/-! ## The statements settled -/

/-- Settles O6: every change of the list is a registration, a freed entry, or a change of the entries' sending. -/
theorem orderListLawIsKept : Obligations.OrderListLawIsKept :=
  fun _ _ hs h => law_of_change (fun _ _ hsame ha => ha.congr hsame.orders) (fun _ _ => ordersOk_of_change) hs h

/-- Settles O7: every write of a section's record keeps its law. -/
theorem sectionLawsAreKept : Obligations.SectionLawsAreKept :=
  fun _ _ hs h => law_of_change (fun _ _ => sectionsOk_of_same) (fun _ _ => sectionsOk_of_change) hs h

/-- Settles O9: every write of a frog's record keeps its law. -/
theorem frogLawsAreKept : Obligations.FrogLawsAreKept :=
  fun _ _ hs h => law_of_change (fun _ _ => frogsOk_of_same) (fun _ _ => frogsOk_of_change) hs h

/-- Settles O10: only loads and unloads change parameters, and they are checked. -/
theorem addressLawIsKept : Obligations.AddressLawIsKept :=
  fun _ _ hs h =>
    law_of_change (fun _ _ hsame ha => ha.congr hsame.sections hsame.frogs) (fun _ _ => addressesOk_of_change) hs h

/-- Settles O11: the table's law needs the frogs' legs configured, DEWIRE's needs nothing. -/
theorem vehicleLawsAreKept : Obligations.VehicleLawsAreKept := by
  intro s t h
  constructor
  · intro ha hv
    exact (law_of_change (P := fun a => AddressesOk a ∧ VehiclesOk a)
      (fun _ _ hsame hp => ⟨hp.1.congr hsame.sections hsame.frogs, vehiclesOk_of_same hsame hp.2⟩)
      (fun _ _ hc hp => ⟨addressesOk_of_change hc hp.1, vehiclesOk_of_change hc hp.1 hp.2⟩) ⟨ha, hv⟩ h).2
  · exact fun hd => law_of_change (fun _ _ => dewireOk_of_same) (fun _ _ => dewireOk_of_change) hd h

/-- Settles O12: whatever joins a queue is checked against its capacity. -/
theorem queueCapacitiesAreKept : Obligations.QueueCapacitiesAreKept := by
  intro s t hs h
  obtain rfl | ⟨rest, hd⟩ := did_step h
  · exact queuesOk_tick hs
  · exact queuesOk_did hd hs.mono

end Sys2Proof.Machine
end

section
/-!
PROOFS. The test units at every step (R54, R55), and that a section comes into ENERGIZING by an attempt of its own alone, which
from DEAD_WAIT is refused while a vehicle in it leaks (R39, R47). The statements settled stand at the end.
-/

namespace Sys2Proof.Machine

/-! ## Work that keeps the test units in order -/

/-- Section `i` is in a substate of ENERGIZING. -/
def Energized (s : State) (i : SectionIx) : Prop := ∃ x sub, s.sect i = some x ∧ x.state = .energizing sub

/-- Work that keeps every test unit in order, and takes no section into ENERGIZING but those that `a` allows. -/
def Calm (a : SectionIx → Prop) (s t : State) : Prop :=
  (∀ u, UnitOk s u) → (∀ u, UnitOk t u) ∧ ∀ i, Energized t i → Energized s i ∨ a i

variable {s t u : State} {a : SectionIx → Prop}

theorem Calm.refl (s : State) : Calm a s s := fun h => ⟨h, fun _ => .inl⟩

theorem Calm.trans (h : Calm a s t) (k : Calm a t u) : Calm a s u := by
  intro hs
  obtain ⟨ht, hst⟩ := h hs
  obtain ⟨hu, htu⟩ := k ht
  exact ⟨hu, fun i hi => (htu i hi).elim (hst i) .inr⟩

/-- Whether a section is in a test state depends on its record alone. -/
theorem inTestState_congr {i : SectionIx} (h : t.sect i = s.sect i) (sub : Substate) (v : UnitIx) :
    inTestState t i sub v ↔ inTestState s i sub v := by
  simp only [inTestState, h]

theorem inTestState_iff {i : SectionIx} {x : Sect} (h : s.sect i = some x) {sub : Substate} {v : UnitIx} :
    inTestState s i sub v ↔ x.state = .energizing sub ∧ x.params.testUnit = v := by
  simp [inTestState, h]

theorem energized_congr {i : SectionIx} (h : t.sect i = s.sect i) : Energized t i ↔ Energized s i := by
  simp only [Energized, h]

/-- The law of a unit is about the test states of the sections and the unit's own record. -/
theorem UnitOk.congr {v : UnitIx} (h : UnitOk s v) (hu : t.unit v = s.unit v)
    (hs : ∀ i sub, sub = .testing ∨ sub = .testWait → (inTestState t i sub v ↔ inTestState s i sub v)) : UnitOk t v := by
  obtain ⟨h1, h2, h3⟩ := h
  exact ⟨fun i => by rw [hu, hs i _ (.inl rfl)]; exact h1 i, fun i => by rw [hu, hs i _ (.inr rfl)]; exact h2 i,
    by rw [hu]; exact h3⟩

/-- Work that touches neither the sections nor the units. -/
theorem calm_of_same (hs : t.sections = s.sections) (hu : t.units = s.units) : Calm a s t :=
  fun h => ⟨fun v => (h v).congr (unit_congr hu v) fun i sub _ => inTestState_congr (sect_congr hs i) sub v,
    fun i hi => .inl ((energized_congr (sect_congr hs i)).mp hi)⟩

theorem calm_raise (b : NoticeBody) (s : State) : Calm a s (raise b s) := calm_of_same (raise_sections b) (raise_units b)

theorem calm_raiseSection (i : SectionIx) (s : State) : Calm a s (raiseSection i s) :=
  calm_of_same (by simp) (by simp)

theorem calm_raiseFlagSet (i : SectionIx) (fl : Option SectionFlag) (s : State) : Calm a s (raiseFlagSet i fl s) :=
  calm_of_same (by simp) (by simp)

/-- A section's record with its state and its TEST_UNIT kept. -/
theorem calm_putSect {i : SectionIx} {x y : Sect} (hx : s.sect i = some x) (hst : y.state = x.state := by rfl)
    (hu : y.params.testUnit = x.params.testUnit := by rfl) : Calm a s (s.putSect i (some y)) := by
  have htest : ∀ j sub v, inTestState (s.putSect i (some y)) j sub v ↔ inTestState s j sub v := by
    intro j sub v
    by_cases hj : j = i
    · subst hj
      rw [inTestState_iff (State.sect_putSect_same ..), inTestState_iff hx, hst, hu]
    · exact inTestState_congr (by rw [State.sect_putSect, if_neg hj]) sub v
  refine fun h => ⟨fun v => (h v).congr rfl fun j sub _ => htest j sub v, fun j hj => .inl ?_⟩
  obtain ⟨z, sub, hz, hzs⟩ := hj
  rw [State.sect_putSect] at hz
  split at hz
  next e => cases hz; exact ⟨x, sub, e ▸ hx, hst ▸ hzs⟩
  · exact ⟨z, sub, hz, hzs⟩

theorem calm_editSect {i : SectionIx} {k : Sect → Sect} (hst : ∀ x, (k x).state = x.state := by exact fun _ => rfl)
    (hu : ∀ x, (k x).params = x.params := by exact fun _ => rfl) : Calm a s (s.editSect i k) := by
  unfold State.editSect; split
  next x hx => exact calm_putSect hx (hst x) (by rw [hu])
  · exact .refl s

theorem calm_editProt (i : SectionIx) (k : Protection → Protection) (s : State) : Calm a s (s.editProt i k) := calm_editSect

theorem calm_registerFor (i : SectionIx) (k : OrderKind) (s : State) : Calm a s (registerFor i k s) := by
  unfold registerFor; split
  · exact .refl s
  next x hx =>
    have hlisted : Calm a s (s.setOrders (register s.orders x.params.feederAddr k).1) := calm_of_same rfl rfl
    exact hlisted.trans (calm_putSect (s := s.setOrders _) hx)

theorem calm_checkHeadsOf (i : SectionIx) (s : State) : Calm a s (checkHeadsOf i s) :=
  calm_of_same (sections_of_besideFrogs (besideFrogs_checkHeadsOf s i)) (units_of_besideFrogs (besideFrogs_checkHeadsOf s i))

theorem calm_checkIfPowerChanged (i : SectionIx) (b : Bool) (s : State) : Calm a s (checkIfPowerChanged i b s) := by
  unfold checkIfPowerChanged; split
  · exact .refl s
  · exact calm_checkHeadsOf i s

/-! ## Entry to a state -/

/-- The record of a section that no longer needs a test unit. -/
def Sect.untested (y : Sect) : Prop := y.state ≠ .energizing .testWait ∧ y.state ≠ .energizing .testing

theorem Sect.untested.not_in {i : SectionIx} {y : Sect} (h : y.untested) (hy : t.sect i = some y) (v : UnitIx) {sub : Substate}
    (hs : sub = .testing ∨ sub = .testWait) : ¬ inTestState t i sub v := by
  rw [inTestState_iff hy]
  rintro ⟨hst, -⟩
  obtain rfl | rfl := hs
  · exact h.2 hst
  · exact h.1 hst

theorem mem_leaveSet {i j : SectionIx} {w : List SectionIx} : j ∈ leaveSet i w ↔ j ∈ w ∧ j ≠ i := by
  simp [leaveSet]

section Departure

variable {i : SectionIx} {x y : Sect} {o : TestOutcome} {l : List Order}

/-- A section leaves TEST_WAIT (R56). -/
theorem Departed.unitOk_withdrawn (hd : Departed i x o l s t) (hu : UnitOk s x.params.testUnit) (hx : s.sect i = some x)
    (hy : t.sect i = some y) (hn : y.untested) (hw : x.state = .energizing .testWait) : UnitOk t x.params.testUnit := by
  obtain ⟨h1, h2, h3⟩ := hu
  obtain ⟨hother, hunit⟩ := hd.withdrawn hw
  have hi : ¬ inTestState s i .testing x.params.testUnit := by rw [inTestState_iff hx, hw]; simp
  refine ⟨fun j => ?_, fun j => ?_, fun hf => ?_⟩
  · rw [hunit]
    by_cases hj : j = i
    · subst hj; exact iff_of_false (fun h => hi ((h1 j).mp h)) (hn.not_in hy _ (.inl rfl))
    · rw [inTestState_congr (hother j hj)]; exact h1 j
  · rw [hunit]
    simp only [mem_leaveSet]
    by_cases hj : j = i
    · subst hj; exact iff_of_false (fun h => h.2 rfl) (hn.not_in hy _ (.inr rfl))
    · rw [inTestState_congr (hother j hj), ← h2 j]; simp [hj]
  · rw [hunit] at hf ⊢
    simp [leaveSet, h3 hf]

/-- A section leaves TESTING and no section waits: its unit is free (R57). -/
theorem Departed.unitOk_freed (hd : Departed i x o l s t) (hu : UnitOk s x.params.testUnit) (hx : s.sect i = some x)
    (hy : t.sect i = some y) (hn : y.untested) (ht : x.state = .energizing .testing)
    (hempty : (s.unit x.params.testUnit).waiting = []) : UnitOk t x.params.testUnit := by
  obtain ⟨hholder, hnot⟩ := hu.testing hx ht
  obtain ⟨h1, h2, -⟩ := hu
  obtain ⟨hother, hunit⟩ := hd.freed ht hholder hempty
  refine ⟨fun j => ?_, fun j => ?_, fun _ => by rw [hunit]; exact hempty⟩
  · rw [hunit]
    refine iff_of_false nofun ?_
    by_cases hj : j = i
    · subst hj; exact hn.not_in hy _ (.inl rfl)
    · rw [inTestState_congr (hother j hj), ← h1 j, hholder]
      exact fun h => hj (Option.some.inj h).symm
  · rw [hunit]
    by_cases hj : j = i
    · subst hj; exact iff_of_false hnot (hn.not_in hy _ (.inr rfl))
    · rw [inTestState_congr (hother j hj)]; exact h2 j

/-- A section leaves TESTING and section `k` is granted its unit (R55, R57). -/
theorem Departed.unitOk_granted (hd : Departed i x o l s t) (hu : UnitOk s x.params.testUnit) (hx : s.sect i = some x)
    (hy : t.sect i = some y) (hn : y.untested) (ht : x.state = .energizing .testing) {k : SectionIx}
    (hk : firstFrom (s.unit x.params.testUnit).pointer (s.unit x.params.testUnit).waiting k) : UnitOk t x.params.testUnit := by
  obtain ⟨hholder, hnot⟩ := hu.testing hx ht
  obtain ⟨h1, h2, -⟩ := hu
  have hki : k ≠ i := fun e => hnot (e ▸ hk.1)
  obtain ⟨hother, hunit, hgranted⟩ := hd.granted k hki ht hholder hk
  obtain ⟨z, hz, -, hzu⟩ := (h2 k).mp hk.1
  have hkt := hgranted z hz
  refine ⟨fun j => ?_, fun j => ?_, fun hnone => by rw [hunit] at hnone; cases hnone⟩
  · rw [hunit]
    by_cases hj : j = i
    · subst hj; exact iff_of_false (fun h => hki (Option.some.inj h)) (hn.not_in hy _ (.inl rfl))
    · by_cases hjk : j = k
      · subst hjk
        rw [inTestState_iff hkt]
        exact iff_of_true rfl ⟨rfl, hzu⟩
      · rw [inTestState_congr (hother j hj hjk), ← h1 j, hholder]
        exact iff_of_false (fun h => hjk (Option.some.inj h).symm) fun h => hj (Option.some.inj h).symm
  · rw [hunit]
    simp only [mem_leaveSet]
    by_cases hj : j = i
    · subst hj; exact iff_of_false (fun h => hnot h.1) (hn.not_in hy _ (.inr rfl))
    · by_cases hjk : j = k
      · subst hjk
        rw [inTestState_iff hkt]
        exact iff_of_false (fun h => h.2 rfl) (fun h => by simp [Sect.entered] at h)
      · rw [inTestState_congr (hother j hj hjk), ← h2 j]; simp [hjk]

/-- The other sections after a departure: as they were, but for the one granted the unit. -/
theorem Departed.others (hd : Departed i x o l s t) (hu : UnitOk s x.params.testUnit) (hx : s.sect i = some x)
    {j : SectionIx} (hj : j ≠ i) : t.sect j = s.sect j ∨ j ∈ (s.unit x.params.testUnit).waiting ∧
      ∀ z, s.sect j = some z → ∃ z', t.sect j = some z' ∧ z'.params = z.params := by
  by_cases hw : x.state = .energizing .testWait
  · exact .inl ((hd.withdrawn hw).1 j hj)
  by_cases ht : x.state = .energizing .testing
  · obtain ⟨hholder, hnot⟩ := hu.testing hx ht
    cases hf : firstWaiting (s.unit x.params.testUnit).pointer (s.unit x.params.testUnit).waiting with
    | none => exact .inl ((hd.freed ht hholder (firstWaiting_none hf)).1 j hj)
    | some k =>
      have hk := firstWaiting_iff.mp hf
      obtain ⟨hother, -, hgranted⟩ := hd.granted k (fun e => hnot (e ▸ hk.1)) ht hholder hk
      by_cases hjk : j = k
      · subst hjk
        exact .inr ⟨hk.1, fun z hz => ⟨_, hgranted z hz, rfl⟩⟩
      · exact .inl (hother j hj hjk)
  · exact .inl ((hd.quiet hw ht).1 j hj)

/-- A section that departs to a state in which it needs no test unit leaves the units in order. -/
theorem Departed.unitsOk (hd : Departed i x o l s t) (hu : ∀ v, UnitOk s v) (hx : s.sect i = some x) (hy : t.sect i = some y)
    (hn : y.untested) : ∀ v, UnitOk t v := by
  intro v
  have hown := hu x.params.testUnit
  by_cases hv : v = x.params.testUnit
  · subst hv
    by_cases hw : x.state = .energizing .testWait
    · exact hd.unitOk_withdrawn hown hx hy hn hw
    by_cases ht : x.state = .energizing .testing
    · cases hf : firstWaiting (s.unit x.params.testUnit).pointer (s.unit x.params.testUnit).waiting with
      | none => exact hd.unitOk_freed hown hx hy hn ht (firstWaiting_none hf)
      | some k => exact hd.unitOk_granted hown hx hy hn ht (firstWaiting_iff.mp hf)
    · obtain ⟨hother, hunits⟩ := hd.quiet hw ht
      refine hown.congr (unit_congr hunits _) fun j sub hsub => ?_
      by_cases hj : j = i
      · subst hj
        exact iff_of_false (hn.not_in hy _ hsub) (Sect.untested.not_in ⟨hw, ht⟩ hx _ hsub)
      · exact inTestState_congr (hother j hj) sub _
  · refine (hu v).congr (hd.units v hv) fun j sub hsub => ?_
    by_cases hj : j = i
    · subst hj
      refine iff_of_false (hn.not_in hy _ hsub) ?_
      rw [inTestState_iff hx]
      exact fun h => hv h.2.symm
    · obtain he | ⟨hjw, hpar⟩ := hd.others hown hx hj
      · exact inTestState_congr he sub v
      · obtain ⟨z, hz, -, hzu⟩ := (hown.waiting j).mp hjw
        obtain ⟨z', hz', hp⟩ := hpar z hz
        rw [inTestState_iff hz, inTestState_iff hz', hp, hzu]
        exact iff_of_false (fun h => hv h.2.symm) fun h => hv h.2.symm

/-- A departure from a state keeps the law of the units; only the section itself may come into ENERGIZING. -/
theorem Departed.calm (hd : Departed i x o l s t) (hu : ∀ v, UnitOk s v) (hx : s.sect i = some x) (hy : t.sect i = some y)
    (hn : y.untested) (he : Energized t i → Energized s i ∨ a i) :
    (∀ v, UnitOk t v) ∧ ∀ j, Energized t j → Energized s j ∨ a j := by
  refine ⟨hd.unitsOk hu hx hy hn, fun j hj => ?_⟩
  by_cases hji : j = i
  · subst hji; exact he hj
  · obtain hsame | ⟨hjw, -⟩ := hd.others (hu _) hx hji
    · exact .inl ((energized_congr hsame).mp hj)
    · obtain ⟨z, hz, hzs, -⟩ := ((hu _).waiting j).mp hjw
      exact .inl ⟨z, _, hz, hzs⟩

end Departure

/-- Entry to a state other than TEST_WAIT and TESTING. -/
theorem calm_enterState {i : SectionIx} {st : SectionState} (fl : Option SectionFlag) (o : TestOutcome)
    (hw : st ≠ .energizing .testWait) (ht : st ≠ .energizing .testing)
    (he : ∀ sub, st = .energizing sub → Energized s i ∨ a i) : Calm a s (enterState i st fl o s) := by
  intro hu
  cases hx : s.sect i with
  | none => rw [enterState, hx]; exact Calm.refl s hu
  | some x =>
    obtain ⟨hself, ⟨l, hd⟩, -⟩ := enterState_spec st fl o hx fun htest => ((hu _).testing hx htest).2
    have hstate : ∀ w, ({ x.entered s.partTime st with wait := w } : Sect).state = st := fun w => by
      unfold Sect.entered; split <;> rfl
    refine hd.calm hu hx hself ⟨by rwa [hstate], by rwa [hstate]⟩ fun ⟨y, sub, hy, hys⟩ => ?_
    rw [hself] at hy
    cases hy
    rw [hstate] at hys
    exact he sub hys

/-- Entry to a state that is no substate of ENERGIZING. -/
theorem calm_enterState_rest {i : SectionIx} {st : SectionState} (fl : Option SectionFlag) (o : TestOutcome)
    (hst : ∀ sub, st ≠ .energizing sub) : Calm a s (enterState i st fl o s) :=
  calm_enterState fl o (hst _) (hst _) fun sub h => absurd h (hst sub)

theorem calm_lockOut (i : SectionIx) (r : LockReason) (fl : Option SectionFlag) (o : TestOutcome) (s : State) :
    Calm a s (lockOut i r fl o s) :=
  Calm.trans calm_editSect (calm_enterState_rest fl o (by simp))

theorem calm_trip (i : SectionIx) (r : TripReason) (s : State) : Calm a s (trip i r s) :=
  Calm.trans calm_editSect (calm_enterState_rest _ _ (by simp))

theorem calm_closeTo (i : SectionIx) (fl : Option SectionFlag) (s : State) : Calm a s (closeTo i fl s) :=
  Calm.trans calm_editSect (calm_enterState_rest _ _ (by simp))

theorem calm_failAttempt (i : SectionIx) (c : LockReason) (fl : Option SectionFlag) (o : TestOutcome) (s : State) :
    Calm a s (failAttempt i c fl o s) := by
  unfold failAttempt; split
  · exact .refl s
  · split
    · split
      · exact calm_enterState_rest fl o (by simp)
      · exact calm_lockOut i _ fl o s
    · exact calm_lockOut i c fl o s

/-! ## Attempts (R40) -/

/-- Section `i`, in no test state, passes to TEST_WAIT: with the units in order they stay so. -/
theorem unitsOk_of_joinsUnit {i : SectionIx} {x y : Sect} (hu : ∀ v, UnitOk s v) (hy : s.sect i = some y) (hn : y.untested)
    (hj : joinsUnit i x s t) (ho : ∀ j, j ≠ i → t.sect j = s.sect j) : ∀ v, UnitOk t v := by
  obtain ⟨hfree, hheld, hunits⟩ := hj
  have hcur : ∀ v sub, sub = .testing ∨ sub = .testWait → ¬ inTestState s i sub v := fun v sub => hn.not_in hy v
  have hown := hu x.params.testUnit
  intro v
  by_cases hv : v = x.params.testUnit
  · subst hv
    by_cases hh : (s.unit x.params.testUnit).holder = none
    · obtain ⟨hunit, hsect, -⟩ := hfree hh
      have hempty := hown.free hh
      refine ⟨fun j => ?_, fun j => ?_, fun h => by rw [hunit] at h; cases h⟩
      · rw [hunit]
        by_cases hji : j = i
        · subst hji; rw [inTestState_iff hsect]; exact iff_of_true rfl ⟨rfl, rfl⟩
        · rw [inTestState_congr (ho j hji), ← hown.holder j, hh]
          exact iff_of_false (fun h => hji (Option.some.inj h).symm) nofun
      · rw [hunit]
        by_cases hji : j = i
        · subst hji; rw [inTestState_iff hsect]; exact iff_of_false (by simp) (by simp)
        · rw [inTestState_congr (ho j hji), ← hown.waiting j, hempty]
    · obtain ⟨hunit, hsect, -⟩ := hheld hh
      refine ⟨fun j => ?_, fun j => ?_, fun h => by rw [hunit] at h; exact absurd h hh⟩
      · rw [hunit]
        by_cases hji : j = i
        · subst hji
          rw [inTestState_iff hsect]
          exact iff_of_false (fun h => hcur _ _ (.inl rfl) ((hown.holder j).mp h)) (by simp)
        · rw [inTestState_congr (ho j hji)]; exact hown.holder j
      · rw [hunit]
        simp only [List.mem_filter, List.mem_finRange, true_and, decide_eq_true_eq]
        by_cases hji : j = i
        · subst hji; rw [inTestState_iff hsect]; exact iff_of_true (.inl rfl) ⟨rfl, rfl⟩
        · rw [inTestState_congr (ho j hji), ← hown.waiting j]; simp [hji]
  · refine (hu v).congr (hunits v hv) fun j sub hsub => ?_
    by_cases hji : j = i
    · subst hji
      refine iff_of_false ?_ (hcur v sub hsub)
      rintro ⟨z, hz, -, hzu⟩
      have hzp : z.params = x.params := by
        by_cases hh : (s.unit x.params.testUnit).holder = none
        · obtain ⟨-, hsect, -⟩ := hfree hh
          rw [hsect] at hz; cases hz; rfl
        · obtain ⟨-, hsect, -⟩ := hheld hh
          rw [hsect] at hz; cases hz; rfl
      exact hv (hzu ▸ hzp ▸ rfl)
    · exact inTestState_congr (ho j hji) sub v

theorem calm_passToTestWait {i : SectionIx} {x : Sect} (hx : s.sect i = some x) (hc : x.state = .energizing .cooling) :
    Calm a s (passToTestWait i s) := by
  intro hu
  obtain ⟨hjoins, hother⟩ := passToTestWait_spec hx (by simp [hc]) (hu x.params.testUnit).free
  refine ⟨unitsOk_of_joinsUnit hu hx ⟨by simp [hc], by simp [hc]⟩ hjoins hother, fun j hj => .inl ?_⟩
  by_cases hji : j = i
  · exact hji ▸ ⟨x, _, hx, hc⟩
  · exact (energized_congr (hother j hji)).mp hj

/-- Section `i` is in no test state. -/
def Untested (s : State) (i : SectionIx) : Prop := ∀ x, s.sect i = some x → x.untested

theorem Untested.not_in {i : SectionIx} (h : Untested s i) (v : UnitIx) {sub : Substate} (hs : sub = .testing ∨ sub = .testWait) :
    ¬ inTestState s i sub v := by
  rintro ⟨x, hx, hx'⟩
  exact (h x hx).not_in hx v hs ⟨x, hx, hx'⟩

/-- Section `i`, in no test state, is loaded, unloaded, or takes another state that is no test state. -/
theorem calm_untested {i : SectionIx} (hs : Untested s i) (ht : Untested t i) (ho : ∀ j, j ≠ i → t.sect j = s.sect j)
    (hu : t.units = s.units) (hi : Energized t i → Energized s i ∨ a i) : Calm a s t := by
  refine fun h => ⟨fun v => (h v).congr (unit_congr hu v) fun j sub hsub => ?_, fun j hj => ?_⟩
  · by_cases hji : j = i
    · subst hji
      exact iff_of_false (ht.not_in v hsub) (hs.not_in v hsub)
    · exact inTestState_congr (ho j hji) sub v
  · by_cases hji : j = i
    · subst hji; exact hi hj
    · exact .inl ((energized_congr (ho j hji)).mp hj)

theorem sect_putSect_ne {i j : SectionIx} (h : j ≠ i) (o : Option Sect) (s : State) : (s.putSect i o).sect j = s.sect j := by
  rw [State.sect_putSect, if_neg h]

theorem untested_putSect {i : SectionIx} {o : Option Sect} (h : ∀ y, o = some y → y.untested) : Untested (s.putSect i o) i :=
  fun y hy => h y (by rwa [State.sect_putSect_same] at hy)

/-- An attempt begins from a state outside ENERGIZING: the section itself comes into ENERGIZING. -/
theorem calm_beginAttempt {i : SectionIx} {x : Sect} (o : Origin) (n : Nat) (hx : s.sect i = some x)
    (he : ∀ sub, x.state ≠ .energizing sub) (ha : a i) : Calm a s (beginAttempt i o n s) := by
  have hcooling : (x.entered s.partTime (.energizing .cooling)).state = .energizing .cooling := by
    unfold Sect.entered; split <;> rfl
  have hput : Calm a s (s.putSect i (some { (x.entered s.partTime (.energizing .cooling)) with
      origin := some o, attempts := n })) :=
    calm_untested (fun y hy => by rw [hx] at hy; cases hy; exact ⟨he _, he _⟩)
      (untested_putSect fun y hy => by cases hy; exact ⟨by simp [hcooling], by simp [hcooling]⟩)
      (fun j hj => sect_putSect_ne hj _ s) rfl fun _ => .inr ha
  unfold beginAttempt
  rw [hx]
  dsimp only
  split
  · exact hput.trans (calm_passToTestWait (State.sect_putSect_same ..) hcooling)
  · exact hput.trans (calm_raiseSection i _)

theorem calm_coolDownCheck (i : SectionIx) (s : State) : Calm a s (coolDownCheck i s) := by
  unfold coolDownCheck; split
  next x hx =>
    split
    next h => exact calm_passToTestWait hx h.1
    · exact .refl s
  · exact .refl s

/-! ## Breaker reports and orders -/

theorem calm_openedToWait (i : SectionIx) (s : State) : Calm a s (openedToWait i s) := by
  unfold openedToWait; split
  · exact .refl s
  · split
    · exact calm_lockOut i _ _ _ s
    · exact calm_enterState_rest _ _ (by simp)

theorem calm_reportOpen (i : SectionIx) (x : Sect) (s : State) : Calm a s (reportOpen i x s) := by
  unfold reportOpen; split
  · exact calm_enterState_rest _ _ (by simp)
  · exact Calm.trans calm_editSect (calm_openedToWait i _)
  · split
    · exact Calm.trans calm_editSect (calm_enterState_rest _ _ (by simp))
    · exact calm_openedToWait i s
  · exact calm_enterState_rest _ _ (by simp)
  · exact .refl s

theorem calm_reportClosed (i : SectionIx) (x : Sect) (s : State) : Calm a s (reportClosed i x s) := by
  unfold reportClosed; split
  · exact calm_closeTo i _ s
  · exact calm_closeTo i _ s
  · exact calm_closeTo i _ s
  · exact calm_closeTo i _ s
  · exact calm_enterState_rest _ _ (by simp)
  · exact calm_closeTo i _ s
  · exact .refl s

theorem calm_takeBreaker (i : SectionIx) (b : BreakerState) (s : State) : Calm a s (takeBreaker i b s) := by
  unfold takeBreaker; split
  · exact .refl s
  next x hx =>
    have hput : Calm a s (s.putSect i (some { x with lastReport := some b })) := calm_putSect hx
    dsimp only
    split
    · exact hput.trans (calm_reportOpen i x _)
    · exact hput.trans (calm_reportClosed i x _)
    · exact (hput.trans calm_editSect).trans (calm_lockOut i _ _ _ _)

theorem calm_isolateRequest (i : SectionIx) (k : OrderKind) (s : State) : Calm a s (isolateRequest i k s) := by
  have hrest : ∀ {x : Sect} {sub : Substate},
      (if x.lastReport = some .opened then SectionState.isolated else .isolating) ≠ .energizing sub := by
    intro x sub; split <;> simp
  unfold isolateRequest; split
  · exact .refl s
  next x hx =>
    dsimp only
    split
    · exact calm_raise _ s
    · exact calm_enterState_rest _ _ fun _ => hrest
    · exact calm_enterState_rest _ _ fun _ => hrest
    · exact calm_enterState_rest _ _ fun _ => hrest
    · exact calm_enterState_rest _ _ fun _ => hrest
    · exact calm_enterState_rest _ _ fun _ => hrest
    · exact calm_enterState_rest _ _ (by simp)
    · exact calm_enterState_rest _ _ (by simp)
    · exact calm_putSect hx
    · exact .refl s
    · exact .refl s

/-- Section `i` may begin an attempt: it is not in DEAD_WAIT with a vehicle in it that leaks (R39, R47). -/
def MayAttempt (s : State) (i : SectionIx) : Prop :=
  ∀ x, s.sect i = some x → x.state = .deadWait → s.leakCount i = 0

theorem calm_energizeRequest (i : SectionIx) (s : State) : Calm (MayAttempt s) s (energizeRequest i s) := by
  unfold energizeRequest; split
  · exact .refl s
  next x hx =>
    have hbegin : ∀ {st : SectionState}, x.state = st → (∀ sub, st ≠ .energizing sub) →
        (st = .deadWait → s.leakCount i = 0) → Calm (MayAttempt s) s (beginAttempt i .dispatch 0 s) := by
      intro st hst he hl
      refine calm_beginAttempt _ _ hx (fun sub => hst ▸ he sub) fun y hy hw => hl ?_
      rw [hx] at hy; cases hy
      exact hst.symm.trans hw
    split
    · exact calm_raise _ s
    · exact calm_raise _ s
    · exact calm_raise _ s
    · exact .refl s
    · exact .refl s
    next hst =>
      split
      · exact calm_lockOut i _ _ _ s
      · exact hbegin hst (by simp) (by simp)
    next hst =>
      split
      · exact calm_lockOut i _ _ _ s
      · exact hbegin hst (by simp) (by simp)
    next hst =>
      split
      · exact calm_lockOut i _ _ _ s
      · split
        · exact calm_lockOut i _ _ _ s
        next hl => exact hbegin hst (by simp) fun _ => by omega

theorem calm_interceptSection (i : SectionIx) (p : List Byte) (s : State) :
    Calm (MayAttempt s) s (interceptSection i p s) := by
  unfold interceptSection; split
  · exact .refl s
  · split
    · exact calm_energizeRequest i s
    · exact calm_isolateRequest i _ s
    · exact calm_isolateRequest i _ s
    · exact calm_raise _ s

theorem calm_takeResult (i : SectionIx) (r : BitVec 16) (s : State) : Calm a s (takeResult i r s) := by
  unfold takeResult; split
  · exact .refl s
  next x hx =>
    split
    next ht =>
      split
      · exact calm_enterState _ _ (by simp) (by simp) fun _ _ => .inl ⟨x, _, hx, ht⟩
      · exact calm_failAttempt i _ _ _ s
    · exact .refl s

/-! ## Timers -/

theorem calm_openExpiry (i : SectionIx) (s : State) : Calm a s (openExpiry i s) := by
  unfold openExpiry; split
  · exact .refl s
  · split
    · exact Calm.trans calm_editSect (calm_lockOut i _ _ _ _)
    · exact .refl s

theorem calm_closeExpiry (i : SectionIx) (s : State) : Calm a s (closeExpiry i s) := by
  unfold closeExpiry; split
  · exact .refl s
  · split
    · exact calm_failAttempt i _ _ _ s
    · exact .refl s

theorem calm_testExpiry (i : SectionIx) (s : State) : Calm a s (testExpiry i s) := by
  unfold testExpiry; split
  · exact .refl s
  · split
    · exact calm_failAttempt i _ _ _ s
    · exact .refl s

theorem calm_deadWaitExpires (i : SectionIx) (s : State) : Calm (MayAttempt s) s (deadWaitExpires i s) := by
  unfold deadWaitExpires; split
  · exact .refl s
  next x hx =>
    split
    next h =>
      have hst : x.state = .deadWait := of_decide_eq_true (Bool.and_eq_true _ _ ▸ h).2
      split
      · exact calm_lockOut i _ _ _ s
      · split
        · exact calm_lockOut i _ _ _ s
        next hl =>
          split
          · exact calm_lockOut i _ _ _ s
          · exact calm_beginAttempt _ _ hx (by simp [hst]) fun _ _ _ => by omega
    · exact .refl s

theorem calm_reclaimExpires (i : SectionIx) (s : State) : Calm a s (reclaimExpires i s) := by
  unfold reclaimExpires; split
  · exact .refl s
  next x hx =>
    split
    · exact calm_putSect hx
    · exact .refl s

theorem calm_reclaimPeriod (i : SectionIx) (s : State) : Calm a s (reclaimPeriod i s) := by
  unfold reclaimPeriod; split
  · exact .refl s
  next x hx =>
    split
    · exact calm_putSect hx
    · exact .refl s

theorem calm_silenceExpires (i : SectionIx) (s : State) : Calm a s (silenceExpires i s) := by
  unfold silenceExpires; split
  · exact .refl s
  next x hx =>
    split
    · have hput : Calm a s (s.putSect i (some { x with prot := { x.prot with
          blind := true, synced := false, window := none, lowRun := none, silence := .stopped } })) := calm_putSect hx
      dsimp only
      split
      · exact hput.trans (calm_failAttempt i _ _ _ _)
      · exact hput.trans (calm_raiseFlagSet i _ _)
    · exact .refl s

/-! ## Endings of orders (R140) -/

theorem calm_of_besideFrogs (h : t.besideFrogs = s.besideFrogs) : Calm a s t :=
  calm_of_same (sections_of_besideFrogs h) (units_of_besideFrogs h)

theorem calm_serveTurn (k : Turn) (s : State) : Calm a s (serveTurn k s).1 := by
  have hsection : ∀ c i, Calm a s (serveSection c i s).1 := by
    intro c i
    unfold serveSection; split
    · exact .refl s
    · split
      · exact .refl s
      · split
        · exact calm_registerFor i _ s
        · exact .refl s
  cases k with
  | urgent i => exact hsection true i
  | normal i => exact hsection false i
  | frog f =>
    change Calm a s (serveFrog f s).1
    unfold serveFrog; split
    · exact .refl s
    · split
      · dsimp only
        split <;> exact calm_of_besideFrogs (by simp)
      · exact .refl s

theorem calm_serveTurns (l : List Turn) (s : State) : Calm a s (serveTurns l s) := by
  induction l generalizing s with
  | nil => exact .refl s
  | cons k l ih =>
    unfold serveTurns; split
    · exact calm_serveTurn k s
    · exact (calm_serveTurn k s).trans (ih _)

theorem calm_sectionEnding (i : SectionIx) (k : OrderKind) (accepted : Bool) (s : State) :
    Calm a s (sectionEnding i k accepted s) := by
  unfold sectionEnding; split
  · exact .refl s
  · split
    · exact .refl s
    · split
      · exact calm_failAttempt i _ _ _ s
      · split
        · exact calm_failAttempt i _ _ _ s
        · exact .refl s

theorem calm_endOrder (e : Order) (accepted : Bool) (s : State) : Calm a s (endOrder e accepted s) := by
  have hfreed : Calm a s (s.setOrders (s.orders.filter fun x => decide (x.target ≠ e.target))) := calm_of_same rfl rfl
  refine (hfreed.trans ?_).trans (calm_serveTurns _ _)
  unfold tellOwner; split
  · exact calm_sectionEnding _ _ _ _
  · exact calm_of_besideFrogs (besideFrogs_frogEnding _ _ _ _)
  · exact .refl _

theorem calm_takeAck (b : LineAddr) (q : Byte) (accepted : Bool) (s : State) : Calm a s (takeAck b q accepted s) := by
  unfold takeAck; split
  · exact .refl s
  · split
    · split
      · exact calm_endOrder _ _ s
      · exact .refl s
    · exact .refl s

theorem calm_ackExpiry (b : LineAddr) (s : State) : Calm a s (ackExpiry b s) := by
  unfold ackExpiry; split
  · exact .refl s
  · split
    · split
      · exact calm_endOrder _ _ s
      · exact .refl s
    · exact .refl s

/-! ## Samples -/

theorem calm_tripIf (i : SectionIx) (r : Option TripReason) (s : State) : Calm a s (tripIf i r s) := by
  unfold tripIf; split
  · exact calm_trip i _ s
  · exact .refl s

theorem calm_takeSample (i : SectionIx) (s : State) (m : Sample) : Calm a s (takeSample i s m) := by
  unfold takeSample; split
  · exact .refl s
  next x hx =>
    have hput : Calm a s (s.putSect i (some (judgeSample (s.vehicleCount i) x m.clamped.current).1)) := calm_putSect hx
    exact hput.trans (calm_tripIf i _ _)

theorem calm_fillSteps (i : SectionIx) (n : Nat) (s : State) : Calm a s (fillSteps i n s) := by
  induction n generalizing s with
  | zero => exact .refl s
  | succ n ih =>
    refine Calm.trans ?_ (ih _)
    unfold fillStep; split
    · exact .refl s
    next x hx =>
      have hput : Calm a s (s.putSect i (some { x with
          prot := { x.prot with h := nextH x.prot.h x.params.ic x.prot.iLast } })) := calm_putSect hx
      exact hput.trans (calm_tripIf i _ _)

theorem calm_foldl {α : Type} {k : State → α → State} (h : ∀ t b, Calm a t (k t b)) (l : List α) (s : State) :
    Calm a s (l.foldl k s) := by
  induction l generalizing s with
  | nil => exact .refl s
  | cons b l ih => exact (h s b).trans (ih _)

theorem calm_gapAction (i : SectionIx) (c : GapClass) (m : Int) (s : State) : Calm a s (gapAction i c m s) := by
  unfold gapAction; split
  · exact (calm_fillSteps i _ s).trans (calm_editProt i _ _)
  · exact calm_editProt i _ s
  · exact .refl s

theorem calm_clearBlind (i : SectionIx) (s : State) : Calm a s (clearBlind i s) := by
  unfold clearBlind; split
  · split
    · exact (calm_editProt i _ s).trans (calm_raise _ _)
    · exact .refl s
  · exact .refl s

theorem calm_evaluateSupply (i : SectionIx) (volts : List Nat) (s : State) : Calm a s (evaluateSupply i volts s) := by
  have hput : ∀ {x : Sect} (p : Protection), s.sect i = some x → Calm a s (s.putSect i (some { x with prot := p })) :=
    fun p hx => calm_putSect hx
  unfold evaluateSupply; split
  · exact .refl s
  next x hx =>
    split
    · split
      · dsimp only
        split
        · exact (((hput _ hx).trans (calm_editProt i _ _)).trans (calm_raise _ _)).trans (calm_checkIfPowerChanged i _ _)
        · exact hput _ hx
      · split
        · dsimp only
          split
          · exact ((hput _ hx).trans (calm_raise _ _)).trans (calm_checkIfPowerChanged i _ _)
          · exact hput _ hx
        · exact .refl s
    · exact .refl s

theorem calm_takeSamples (i : SectionIx) (q : Byte) (p : List Byte) (s : State) : Calm a s (takeSamples i q p s) := by
  have haccept : ∀ c l, Calm a s (acceptFrame i c q l s) := by
    intro c l
    unfold acceptFrame
    dsimp only
    refine (((((calm_clearBlind i s).trans (calm_gapAction i c _ _)).trans
      (calm_foldl (calm_takeSample i) l _)).trans calm_editSect).trans (calm_evaluateSupply i _ _)).trans
      (calm_coolDownCheck i _)
  unfold takeSamples; split
  · exact .refl s
  · split
    · exact .refl s
    · exact haccept _ _

/-! ## Events and steps -/

theorem Calm.mono {b : SectionIx → Prop} (h : Calm a s t) (hab : ∀ i, a i → b i) : Calm b s t := fun hu =>
  ⟨(h hu).1, fun i hi => ((h hu).2 i hi).imp_right (hab i)⟩

theorem SectionEvent.calm (h : SectionEvent s t) : Calm (MayAttempt s) s t := by
  cases h with
  | silence i => exact calm_silenceExpires i s
  | openTimeout i => exact calm_openExpiry i s
  | closeTimeout i => exact calm_closeExpiry i s
  | testTimeout i => exact calm_testExpiry i s
  | deadWait i => exact calm_deadWaitExpires i s
  | reclaim i => exact calm_reclaimExpires i s
  | reclaimPeriod i => exact calm_reclaimPeriod i s
  | samples _ i q p => exact calm_takeSamples i q p s
  | breaker _ i b => exact calm_takeBreaker i b s
  | result _ i r => exact calm_takeResult i r s
  | order _ i p => exact calm_interceptSection i p s
  | ack _ b q accepted => exact calm_takeAck b q accepted s
  | ackTimeout b => exact calm_ackExpiry b s

theorem Event.calm (h : Event s t) : Calm (MayAttempt s) s t := by
  cases h with
  | none => exact .refl s
  | ofSection e => exact e.calm
  | ofFrog e =>
    refine calm_of_besideFrogs ?_
    cases e <;> simp
  | ofVehicle e =>
    have hv : t.besideVehicles = s.besideVehicles := by
      cases e with
      | clear f r => unfold clearReason; split <;> simp
      | skate => simp
      | settle => simp
      | hold => simp
      | report => simp
      | age => simp
      | agePeriod => simp
      | signOff => simp
      | pop => simp
    exact calm_of_same (congrArg State.sections hv :) (congrArg State.units hv :)

theorem Event.activity (h : Event s t) : t.activity = s.activity :=
  h.keeps (P := fun b => b.activity = s.activity) (fun _ _ hw hb => (write_activity hw).trans hb) rfl

theorem untested_of_resting {i : SectionIx} {x : Sect} (hx : s.sect i = some x) (h : x.state.resting = true) :
    Untested s i := by
  intro y hy
  rw [hx] at hy; cases hy
  constructor <;> (intro e; rw [e] at h; cases h)

theorem Sect.reloaded_state (p : SectionParams) (x : Sect) : (x.reloaded p).state = x.state := by
  unfold Sect.reloaded
  dsimp only
  split <;> rfl

/-- A section at its starting values is in UNKNOWN. -/
theorem untested_starting (m : Mode) (now : Time) (p : SectionParams) : (Sect.starting m now p).untested :=
  ⟨by simp [Sect.starting], by simp [Sect.starting]⟩

/-- Every change of the tables keeps the units in order, or stops the part or starts every section and unit afresh. -/
theorem Change.calm (h : Change s t) : t.activity = s.activity ∧ Calm (MayAttempt s) s t ∨
    UnitsOk t ∧ ∀ i, Energized t i → Energized s i := by
  cases h with
  | event e => exact .inl ⟨e.activity, e.calm⟩
  | aged => exact .inl ⟨rfl, calm_of_same rfl rfl⟩
  | sent => exact .inl ⟨rfl, calm_of_same rfl rfl⟩
  | @loadSection i p hp hi =>
    refine .inl ⟨rfl, calm_untested (i := i) (fun x hx => ?_) (untested_putSect fun y hy => ?_)
      (fun j hj => sect_putSect_ne hj _ s) rfl ?_⟩
    · rw [hi] at hx; cases hx
    · cases hy; exact untested_starting ..
    · rintro ⟨y, sub, hy, hys⟩
      rw [State.sect_putSect_same] at hy
      cases hy; cases hys
  | @reloadSection i p x hp hx h =>
    obtain hr | ⟨-, hu⟩ := h
    · have hun := untested_of_resting hx hr
      refine .inl ⟨rfl, calm_untested hun (untested_putSect fun y hy => ?_) (fun j hj => sect_putSect_ne hj _ s) rfl ?_⟩
      · cases hy
        simpa only [Sect.untested, Sect.reloaded_state] using hun x hx
      · rintro ⟨y, sub, hy, hys⟩
        rw [State.sect_putSect_same] at hy
        cases hy
        exact .inl ⟨x, sub, hx, Sect.reloaded_state p x ▸ hys⟩
    · exact .inl ⟨rfl, calm_putSect hx (Sect.reloaded_state p x) (by rw [Sect.reloaded_params, hu])⟩
  | @unloadSection i x hx hr hn =>
    refine .inl ⟨rfl, calm_untested (i := i) (untested_of_resting hx hr) (fun y hy => ?_) (fun j hj => ?_) rfl ?_⟩
    · change (s.putSect i none).sect i = some y at hy
      rw [State.sect_putSect_same] at hy; cases hy
    · exact sect_putSect_ne hj none s
    · rintro ⟨y, sub, hy, -⟩
      change (s.putSect i none).sect i = some y at hy
      rw [State.sect_putSect_same] at hy; cases hy
  | loadFrog => exact .inl ⟨rfl, calm_of_same rfl rfl⟩
  | reloadFrog => exact .inl ⟨rfl, calm_of_same rfl rfl⟩
  | unloadFrog => exact .inl ⟨rfl, calm_of_same rfl rfl⟩
  | @begun mode now u hsec =>
    have hstate : ∀ i y, (startingState mode now u).sect i = some y → y.state = .unknown := fun i y hy => by
      rw [startingState_sect] at hy
      obtain ⟨x, -, rfl⟩ := Option.map_eq_some_iff.mp hy
      rfl
    refine .inr ⟨fun _ v => unitOk_starting (by simp [State.unit, startingState]) fun i sub => ?_, fun i => ?_⟩
    · rintro ⟨y, hy, hys, -⟩
      rw [hstate i y hy] at hys; cases hys
    · rintro ⟨y, sub, hy, hys⟩
      rw [hstate i y hy] at hys; cases hys
  | reset c =>
    refine .inr ⟨fun hrun => (by rw [beginReset_activity] at hrun; cases hrun), fun i => ?_⟩
    rintro ⟨y, sub, hy, hys⟩
    rw [beginReset_sect] at hy
    split at hy
    · cases hy
    · obtain ⟨x, hx, rfl⟩ := Option.map_eq_some_iff.mp hy
      exact ⟨x, sub, hx, hys⟩

theorem unitsOk_of_same (h : SameTables s t) (hs : UnitsOk s) : UnitsOk t := fun hrun v =>
  (hs (h.activity hrun) v).congr (h.unit v) fun i sub _ => inTestState_congr (h.sect i) sub v

theorem unitsOk_of_change (h : Change s t) (hs : UnitsOk s) : UnitsOk t := by
  obtain ⟨ha, hc⟩ | ⟨hu, -⟩ := h.calm
  · intro hrun
    exact (hc (hs (ha.symm.trans hrun))).1
  · exact hu

/-! ## The statements settled -/

/-- Settles O8: a unit is granted, joined and left with the section's own change of state. -/
theorem testUnitLawIsKept : Obligations.TestUnitLawIsKept :=
  fun _ _ hs h => law_of_change (fun _ _ => unitsOk_of_same) (fun _ _ => unitsOk_of_change) hs h

/-- Settles O14: a section comes into ENERGIZING by an attempt of its own alone, and from DEAD_WAIT none begins past a leak. -/
theorem noReclosePastALeak : Obligations.NoReclosePastALeak := by
  intro s t i x y hrun hu h hx hw hleak hy sub hsub
  obtain ⟨u, hsame, hrun', w, hc, ht⟩ := steps_of_step h
  have hleak' : u.leakCount i = s.leakCount i := by rw [State.leakCount, hsame.vehicles]; rfl
  have hen : Energized w i := (energized_congr (ht.sect i)).mp ⟨y, sub, hy, hsub⟩
  have hnot : ¬ Energized u i := by
    rintro ⟨z, sub', hz, hzs⟩
    rw [hsame.sect, hx] at hz
    cases hz
    rw [hw] at hzs; cases hzs
  obtain ⟨-, hcalm⟩ | ⟨-, hstart⟩ := hc.calm
  · obtain he | hmay := (hcalm (unitsOk_of_same hsame hu (hrun' hrun))).2 i hen
    · exact hnot he
    · rw [hmay x (by rw [hsame.sect, hx]) hw] at hleak'
      omega
  · exact hnot (hstart i hen)

end Sys2Proof.Machine
end

section
/-!
PROOFS. In BYPASS nothing moves (R28, R66, R84, R106, R128): the timers stand still and the queues and tables are empty, so no
event has work to do. The statement settled stands at the end.
-/

namespace Sys2Proof.Machine

/-- Nothing moves: the sections rest in UNKNOWN, the frogs and capture records are idle, the vehicle table and the order list
are empty. -/
structure Quiet (s : State) : Prop where
  sects : ∀ i x, s.sect i = some x → x.quiet
  frogs : ∀ f g, s.frog f = some g → g.quiet
  vehicles : s.vehicles = []
  orders : s.orders = []

variable {s t : State}

theorem bypassQuiet_iff : BypassQuiet s ↔ (s.activity = .running → s.mode = .bypass → Quiet s) := by
  constructor
  · intro h hr hm
    obtain ⟨h1, h2, h3, h4⟩ := h hr hm
    exact ⟨h1, h2, h3, h4⟩
  · intro h hr hm
    obtain ⟨h1, h2, h3, h4⟩ := h hr hm
    exact ⟨h1, h2, h3, h4⟩

/-- Only frog `f` changes, and stays at rest. -/
theorem Quiet.of_frog {f : FrogIx} {g k : Frog} (h : Quiet s) (hg : s.frog f = some g) (hb : t.besideFrogs = s.besideFrogs)
    (ho : t.orders = s.orders) (hn : ∀ j, j ≠ f → t.frog j = s.frog j) (hk : t.frog f = some k)
    (hq : g.quiet → k.quiet) : Quiet t := by
  refine ⟨fun i x hx => h.sects i x ?_, fun j k' hj => ?_, ?_, ho.trans h.orders⟩
  · rwa [sect_congr (sections_of_besideFrogs hb)] at hx
  · by_cases hjf : j = f
    · subst hjf
      rw [hk] at hj; cases hj
      exact hq (h.frogs j g hg)
    · exact h.frogs j k' (by rwa [hn j hjf] at hj)
  · rw [vehicles_of_besideFrogs hb, h.vehicles]

theorem quiet_putFrog {f : FrogIx} {k : Frog} (h : Quiet s) (hk : k.quiet) : Quiet (s.putFrog f (some k)) := by
  refine ⟨h.sects, fun j k' hj => ?_, h.vehicles, h.orders⟩
  rw [State.frog_putFrog] at hj
  split at hj
  · cases hj; exact hk
  · exact h.frogs j k' hj

/-- A quiet frog's block set may change: no head is waiting. -/
theorem Quiet.removeBlock {f : FrogIx} (r : BlockReason) (h : Quiet s) :
    Quiet (removeBlock f r s).1 ∧ (Machine.removeBlock f r s).2 = false := by
  cases hg : s.frog f with
  | none => rw [Machine.removeBlock, hg]; exact ⟨h, rfl⟩
  | some g =>
    obtain ⟨-, hother, hidle⟩ := removeBlock_spec r hg
    obtain ⟨-, hq, -⟩ := h.frogs f g hg
    obtain ⟨⟨w, hself⟩, ho, hnote⟩ := hidle (by rw [hq]; rfl)
    exact ⟨h.of_frog hg (besideFrogs_removeBlock _ f r) ho hother hself id, hnote⟩

theorem Quiet.addBlock {f : FrogIx} (r : BlockReason) (h : Quiet s) :
    Quiet (addBlock f r s).1 ∧ (Machine.addBlock f r s).2 = false := by
  cases hg : s.frog f with
  | none => rw [Machine.addBlock, hg]; exact ⟨h, rfl⟩
  | some g =>
    obtain ⟨w, hself, ho, hnote, hother⟩ := addBlock_spec r hg
    exact ⟨h.of_frog hg (besideFrogs_addBlock _ f r) ho hother hself id, hnote⟩

theorem noteFrog_unnoted {f : FrogIx} {w : FrogWork} (h : w.2 = false) : noteFrog f w = w.1 := by
  rw [noteFrog, h]; rfl

/-! ## Events -/

theorem not_supervising (hm : s.mode = .bypass) : ¬ s.supervising := fun hs => by
  obtain ⟨-, hmode⟩ := hs
  rw [hm] at hmode; cases hmode

/-- A section's timers stand still (R20, R28). -/
theorem SectionEvent.quiet (h : SectionEvent s t) (hm : s.mode = .bypass) (hq : Quiet s) : t = s := by
  have hbypass : ¬ s.supervising := not_supervising hm
  cases h with
  | silence i =>
    unfold silenceExpires; split
    · rfl
    next x hx =>
      obtain ⟨-, -, hsil⟩ := hq.sects i x hx
      simp [hsil, Timer.expired]
  | openTimeout i =>
    unfold openExpiry; split
    · rfl
    next x hx =>
      obtain ⟨-, ht, -⟩ := hq.sects i x hx
      simp [ht, Timer.expired]
  | closeTimeout i =>
    unfold closeExpiry; split
    · rfl
    next x hx =>
      obtain ⟨-, ht, -⟩ := hq.sects i x hx
      simp [ht, Timer.expired]
  | testTimeout i =>
    unfold testExpiry; split
    · rfl
    next x hx =>
      obtain ⟨-, ht, -⟩ := hq.sects i x hx
      simp [ht, Timer.expired]
  | deadWait i =>
    unfold deadWaitExpires; split
    · rfl
    next x hx =>
      obtain ⟨-, ht, -⟩ := hq.sects i x hx
      simp [ht, Timer.expired]
  | reclaim i =>
    unfold reclaimExpires; split
    · rfl
    next x hx =>
      obtain ⟨-, ht, -⟩ := hq.sects i x hx
      simp [ht, Timer.expired]
  | reclaimPeriod i =>
    unfold Machine.reclaimPeriod; split
    · rfl
    next x hx =>
      obtain ⟨-, ht, -⟩ := hq.sects i x hx
      simp [ht, Timer.periodEnded]
  | samples hs => exact absurd hs hbypass
  | breaker hs => exact absurd hs hbypass
  | result hs => exact absurd hs hbypass
  | order hs => exact absurd hs hbypass
  | ack hs => exact absurd hs hbypass
  | ackTimeout a => simp [ackExpiry, State.sentTo, hq.orders]

theorem quiet_flushFrog (f : FrogIx) (h : Quiet s) : Quiet (flushFrog f s) := by
  unfold flushFrog; split
  · exact h
  next g hg =>
    have hquiet := h.frogs f g hg
    obtain ⟨hp, hq, ht, he, hc⟩ := hquiet
    have hput : Quiet (s.putFrog f (some { g with
        queue := g.queue.filter fun r => decide (r.phase ≠ .waiting)
        wait := if headIn .waiting g.queue then none else g.wait })) :=
      quiet_putFrog h ⟨hp, by simp [hq], ht, he, hc⟩
    have hwaiting : headIn .waiting g.queue = false := by rw [hq]; rfl
    obtain ⟨hremoved, hnote⟩ := Quiet.removeBlock (f := f) .overflow hput
    rw [noteFrog_unnoted (by simp only [FrogWork.followedBy, hnote, Bool.or_false]; exact hwaiting)]
    exact hremoved

theorem FrogEvent.quiet (h : FrogEvent s t) (hm : s.mode = .bypass) (hq : Quiet s) : Quiet t := by
  have hbypass : ¬ s.supervising := not_supervising hm
  cases h with
  | throwTimeout f =>
    unfold throwExpiry; split
    · exact hq
    next g hg =>
      obtain ⟨-, -, ht, -, -⟩ := hq.frogs f g hg
      simpa [ht, Timer.expired] using hq
  | exitTimeout f =>
    unfold exitExpiry; split
    · exact hq
    next g hg =>
      obtain ⟨-, -, -, he, -⟩ := hq.frogs f g hg
      simpa [he, Timer.expired] using hq
  | exitPeriod f =>
    unfold exitFirstPeriod; split
    · exact hq
    next g hg =>
      obtain ⟨-, -, -, he, -⟩ := hq.frogs f g hg
      simpa [he, Timer.periodEnded] using hq
  | position hs => exact absurd hs hbypass
  | order hs => exact absurd hs hbypass
  | block f =>
    obtain ⟨hadded, hnote⟩ := Quiet.addBlock (f := f) .dispatch hq
    rw [noteFrog_unnoted hnote]
    exact hadded
  | flush f => exact quiet_flushFrog f hq

theorem quiet_clearReason (f : FrogIx) (r : BlockReason) (h : Quiet s) : Quiet (clearReason f r s) := by
  have hclear : ∀ {r : BlockReason} {u : State}, Quiet u → Quiet (noteFrog f (removeBlock f r u)) := by
    intro r u hu
    obtain ⟨hremoved, hnote⟩ := hu.removeBlock (f := f) r
    rw [noteFrog_unnoted hnote]
    exact hremoved
  unfold clearReason; split
  · refine hclear ?_
    have hedit : Quiet (s.editFrog f fun g => { g with untracked := false }) := by
      unfold State.editFrog; split
      next g hg =>
        obtain ⟨h1, h2, h3, h4, h5⟩ := h.frogs f g hg
        exact quiet_putFrog h ⟨h1, h2, h3, h4, h5⟩
      · exact h
    exact ⟨hedit.sects, hedit.frogs, by simp [dropDewireAt, State.setVehicles, hedit.vehicles], hedit.orders⟩
  · exact hclear h

theorem VehicleEvent.quiet (h : VehicleEvent s t) (hm : s.mode = .bypass) (hq : Quiet s) : Quiet t := by
  have hbypass : ¬ s.supervising := not_supervising hm
  have hnone : ∀ n, s.vehicle n = none := fun n => by simp [State.vehicle, hq.vehicles]
  cases h with
  | skate hs => exact absurd hs hbypass
  | settle f =>
    unfold settleExpires; split
    · exact hq
    next g hg =>
      obtain ⟨-, -, -, -, hc⟩ := hq.frogs f g hg
      simpa [hc, Capture.starting, Timer.expired] using hq
  | hold f =>
    unfold holdExpires; split
    · exact hq
    next g hg =>
      obtain ⟨-, -, -, -, hc⟩ := hq.frogs f g hg
      simpa [hc, Capture.starting, Timer.expired] using hq
  | report hs => exact absurd hs hbypass
  | age n => simpa [ageExpiry, hnone] using hq
  | agePeriod n =>
    exact ⟨hq.sects, hq.frogs, by simp [Machine.agePeriod, State.editVehicle, State.setVehicles, hq.vehicles], hq.orders⟩
  | signOff n => simpa [Machine.signOff, hnone] using hq
  | clear f r => exact quiet_clearReason f r hq
  | pop hv => rw [hnone] at hv; cases hv

theorem Event.quiet (h : Event s t) (hm : s.mode = .bypass) (hq : Quiet s) : Quiet t := by
  cases h with
  | none => exact hq
  | ofSection e => rw [e.quiet hm hq]; exact hq
  | ofFrog e => exact e.quiet hm hq
  | ofVehicle e => exact e.quiet hm hq

theorem write_mode (h : Write s t) : t.mode = s.mode := by
  cases h with
  | notice b => exact raise_mode b
  | registered => rfl
  | freed => rfl
  | sect => rfl
  | unit => rfl
  | frog => rfl
  | vehicles => rfl

theorem Event.mode (h : Event s t) : t.mode = s.mode :=
  h.keeps (P := fun b => b.mode = s.mode) (fun _ _ hw hb => (write_mode hw).trans hb) rfl

/-! ## Steps -/

theorem quiet_putSect {i : SectionIx} {o : Option Sect} (h : Quiet s) (ho : ∀ y, o = some y → y.quiet) :
    Quiet (s.putSect i o) := by
  refine ⟨fun j y hy => ?_, h.frogs, h.vehicles, h.orders⟩
  rw [State.sect_putSect] at hy
  split at hy
  · exact ho y hy
  · exact h.sects j y hy

theorem frogQuiet_starting (p : FrogParams) : (Frog.starting p).quiet := ⟨rfl, rfl, rfl, rfl, rfl⟩

theorem sectQuiet_starting {m : Mode} (hm : m = .bypass) (now : Time) (p : SectionParams) : (Sect.starting m now p).quiet := by
  subst hm; exact ⟨rfl, rfl, rfl⟩

/-- A change keeps the part at rest: it keeps the mode, or starts the mode afresh. -/
theorem bypassQuiet_of_change (h : Change s t) (hs : BypassQuiet s) : BypassQuiet t := by
  rw [bypassQuiet_iff] at hs ⊢
  intro hr hm
  cases h with
  | event e =>
    rw [e.activity] at hr
    rw [e.mode] at hm
    exact e.quiet hm (hs hr hm)
  | aged =>
    obtain ⟨h1, h2, h3, h4⟩ := hs hr hm
    exact ⟨h1, h2, by simp [State.setVehicles, h3], h4⟩
  | sent =>
    obtain ⟨h1, h2, h3, h4⟩ := hs hr hm
    exact ⟨h1, h2, h3, by simp [markSent, State.setOrders, h4]⟩
  | loadSection => exact quiet_putSect (hs hr hm) fun y hy => by cases hy; exact sectQuiet_starting hm ..
  | reloadSection hp hx =>
    refine quiet_putSect (hs hr hm) fun y hy => ?_
    cases hy
    obtain ⟨h1, h2, h3⟩ := (hs hr hm).sects _ _ hx
    unfold Sect.reloaded
    dsimp only
    split <;> exact ⟨h1, h2, h3⟩
  | unloadSection =>
    obtain ⟨h1, h2, h3, h4⟩ := quiet_putSect (o := none) (hs hr hm) fun y hy => by cases hy
    exact ⟨h1, h2, by rw [forgetSection, h3]; rfl, h4⟩
  | loadFrog => exact quiet_putFrog (hs hr hm) (frogQuiet_starting _)
  | reloadFrog hp hg =>
    refine quiet_putFrog (hs hr hm) ?_
    obtain ⟨h1, h2, h3, h4, h5⟩ := (hs hr hm).frogs _ _ hg
    unfold Frog.reloaded
    split
    · exact ⟨h1, h2, h3, h4, h5⟩
    · exact ⟨h1, h2, h3, h4, rfl⟩
  | unloadFrog f =>
    obtain ⟨h1, h2, h3, h4⟩ := hs hr hm
    refine ⟨h1, fun k g hg => ?_, by simp [forgetFrog, State.setVehicles, h3], h4⟩
    change (s.putFrog f none).frog k = some g at hg
    rw [State.frog_putFrog] at hg
    split at hg
    · cases hg
    · exact h2 k g hg
  | begun mode now hsec hfrog =>
    refine ⟨fun i y hy => ?_, fun f g hg => ?_, rfl, rfl⟩
    · rw [startingState_sect] at hy
      obtain ⟨x, -, rfl⟩ := Option.map_eq_some_iff.mp hy
      exact sectQuiet_starting hm ..
    · rw [startingState_frog] at hg
      obtain ⟨g', -, rfl⟩ := Option.map_eq_some_iff.mp hg
      exact frogQuiet_starting _
  | reset c => rw [beginReset_activity] at hr; cases hr

theorem bypassQuiet_of_same (h : SameTables s t) (hs : BypassQuiet s) : BypassQuiet t := by
  rw [bypassQuiet_iff] at hs ⊢
  intro hr hm
  obtain ⟨h1, h2, h3, h4⟩ := hs (h.activity hr) (h.mode ▸ hm)
  exact ⟨fun i x hx => h1 i x (by rwa [h.sect] at hx), fun f g hg => h2 f g (by rwa [h.frog] at hg), h.vehicles.trans h3,
    h.orders.trans h4⟩

/-! ## The statement settled -/

/-- Settles O13: no timer runs and no queue has an entry, and only SUPERVISE processes frames. -/
theorem bypassStaysQuiet : Obligations.BypassStaysQuiet :=
  fun _ _ hs h => law_of_change (fun _ _ => bypassQuiet_of_same) (fun _ _ => bypassQuiet_of_change) hs h

end Sys2Proof.Machine
end

section
/-!
PROOFS. What a command leaves alone and what changes the mode (R165, R175, R177), and the frames of the section link: the
receive check (R142, R143), BYPASS (R145, R150). The statements settled stand at the end.
-/

namespace Sys2Proof.Machine

variable {s t : State}

/-! ## The queue of waiting commands -/

theorem raise_pending (b : NoticeBody) (s : State) : (raise b s).pending = s.pending :=
  (congrArg State.pending (besideNotices_raise s b) :)

theorem write_pending (h : Write s t) : t.pending = s.pending := by
  cases h with
  | notice b => exact raise_pending b s
  | registered => rfl
  | freed => rfl
  | sect => rfl
  | unit => rfl
  | frog => rfl
  | vehicles => rfl

theorem Event.pending (h : Event s t) : t.pending = s.pending :=
  h.keeps (P := fun b => b.pending = s.pending) (fun _ _ hw hb => (write_pending hw).trans hb) rfl

theorem putPort_pending (p : PortId) (x : Port) (s : State) : (s.putPort p x).pending = s.pending := by
  cases p <;> rfl

theorem pending_of_besidePorts (h : t.besidePorts = s.besidePorts) : t.pending = s.pending := (congrArg State.pending h :)

theorem writeGlobals_pending (g : Globals) (s : State) : (writeGlobals g s).pending = s.pending := by
  have hage : (applyVehAge s.globals.vehAge g.vehAge s).pending = s.pending := by
    unfold applyVehAge; split
    · rfl
    · split <;> rfl
  unfold writeGlobals
  dsimp only
  split <;> split <;> exact hage

theorem raiseSection_pending (i : SectionIx) (s : State) : (raiseSection i s).pending = s.pending := by
  unfold raiseSection; split
  · exact raise_pending _ s
  · rfl

theorem Managed.pending (h : Managed s t) : t.pending = s.pending := by
  cases h with
  | flags => rfl
  | mode => rfl
  | globals g => exact writeGlobals_pending g s
  | loadSection => exact raiseSection_pending _ (s.putSect _ _)
  | reloadSection => rfl
  | unloadSection => exact raise_pending _ (forgetSection _ (s.putSect _ none))
  | loadFrog => rfl
  | reloadFrog => rfl
  | unloadFrog => rfl
  | filter => rfl
  | read => rfl

theorem originate_pending (p : PortId) (a : LineAddr) (k : Byte) (l : List Byte) (s : State) :
    (originate p a k l s).pending = s.pending := putPort_pending p _ s

theorem sendOrder_pending (e : Order) (s : State) : (sendOrder e s).pending = s.pending := originate_pending _ _ _ _ _

theorem sendCandidate_pending (p : PortId) (c : Candidate) (s : State) : (sendCandidate p c s).pending = s.pending := by
  cases c with
  | reply =>
    unfold sendCandidate sendReply
    dsimp only
    split
    · exact originate_pending _ _ _ _ _
    · rfl
  | notice =>
    unfold sendCandidate sendNotice
    dsimp only
    split
    · exact originate_pending _ _ _ _ _
    · rfl
  | normalOrder =>
    unfold sendCandidate
    dsimp only
    split
    · exact sendOrder_pending _ s
    · rfl
  | forward =>
    unfold sendCandidate sendForward
    dsimp only
    split
    · exact putPort_pending _ _ s
    · rfl

theorem sendByRotation_pending (p : PortId) (s : State) : (sendByRotation p s).pending = s.pending := by
  unfold sendByRotation; split
  · exact (sendCandidate_pending p _ _).trans (putPort_pending p _ s)
  · rfl

theorem beginReset_pending (c : ResetCause) (s : State) : (beginReset c s).pending = s.pending := by
  unfold beginReset
  dsimp only
  split <;> rfl

theorem Did.pending (h : Did s t) : t.pending = s.pending := by
  cases h with
  | event e => exact e.pending
  | filed e p f => exact (pending_of_besidePorts (besidePorts_fileFrame p f)).trans e.pending
  | forwarded p f => exact pending_of_besidePorts (besidePorts_forward p f)
  | answered e _ r => exact e.pending
  | managed m _ r => exact m.pending
  | restart => exact beginReset_pending .restart s
  | checkErr p => exact putPort_pending p _ s
  | crossed p bytes => exact putPort_pending p _ s
  | startField =>
    unfold Machine.startField; split
    · split
      · exact sendOrder_pending _ s
      · exact sendByRotation_pending _ s
    · rfl
  | startUplink =>
    unfold Machine.startUplink; split
    · exact sendByRotation_pending _ s
    · rfl
  | reset c => exact beginReset_pending c s
  | resetEnd => unfold endReset; split <;> rfl
  | holdEnd straps autorun =>
    unfold endHold; split
    · exact raise_pending _ _
    · rfl

/-! ## What changes the mode -/

theorem beginReset_mode (c : ResetCause) (s : State) : (beginReset c s).mode = s.mode := by
  unfold beginReset
  dsimp only
  split <;> rfl

/-- Of the requests only SET_MODE changes the mode (R165). -/
theorem judged_mode {code : Byte} {a : List Byte} {v : Verdict} (h : Judged s code a v) {dest : LineAddr} {tag : BitVec 16}
    (hm : (queueReply dest code tag v).mode ≠ s.mode) : code = 0x02 ∧ a.length = 1 := by
  cases h with
  | event e r d => exact absurd e.mode hm
  | managed m hw r d => exact hw.resolve_left hm
  | restart => exact absurd (beginReset_mode .restart s) hm

/-- A frame that changes the mode is a MGMT frame to the part on UPLINK that carries SET_MODE. -/
theorem receiveFrame_mode {p : PortId} {f : Frame} (hs : s.activity = .running) (hm : (receiveFrame p f s).mode ≠ s.mode) :
    p = .uplink ∧ f.kind = kindMgmt ∧ f.dest = s.ownAddr ∧ f.src ≠ 0x0000 ∧ ∃ t1 t0 b, f.payload = [0x02, t1, t0, b] := by
  unfold receiveFrame at hm
  split at hm
  next hmgmt =>
    simp only [Frame.toPart, Bool.and_eq_true, decide_eq_true_eq] at hmgmt
    obtain ⟨⟨⟨hk, hd⟩, hp⟩, hsrc⟩ := hmgmt
    refine ⟨hp, hk, hd, hsrc, ?_⟩
    unfold takeMgmt at hm
    split at hm
    next code t1 t0 a hpay =>
      unfold takeRequest at hm
      split at hm
      · obtain ⟨hcode, hl⟩ := judged_mode (judged_request code a) hm
        obtain ⟨b, rfl⟩ := List.length_eq_one_iff.mp hl
        exact ⟨t1, t0, b, hcode ▸ hpay⟩
      · exact absurd rfl hm
    · exact absurd rfl hm
  · split at hm
    · exact absurd (congrArg State.mode (besidePorts_forward p f) :) hm
    next hsup =>
      split at hm
      · exact absurd rfl hm
      · split at hm
        next t ht => exact absurd (event_intercept ⟨hs, hsup⟩ ht).mode hm
        · exact absurd ((congrArg State.mode (besidePorts_fileFrame p f) :).trans (event_process ⟨hs, hsup⟩ p f).mode) hm

theorem putPort_mode (p : PortId) (x : Port) (s : State) : (s.putPort p x).mode = s.mode := by
  cases p <;> rfl

theorem arriveBytes_mode {p : PortId} {bytes : List Byte} (hm : (arriveBytes p bytes s).mode ≠ s.mode) :
    p = .uplink ∧ ∃ f t1 t0 b, parseFrame bytes = some f ∧ f.kind = kindMgmt ∧ f.dest = s.ownAddr ∧ f.src ≠ 0x0000 ∧
      f.payload = [0x02, t1, t0, b] := by
  unfold arriveBytes at hm
  split at hm
  next hr =>
    split at hm
    next f hf =>
      obtain ⟨hp, hk, hd, hsrc, t1, t0, b, hpay⟩ := receiveFrame_mode (isRunning_iff.mp hr) hm
      exact ⟨hp, f, t1, t0, b, hf, hk, hd, hsrc, hpay⟩
    · exact absurd (putPort_mode p _ s) hm
  · exact absurd (putPort_mode _ _ s) hm

theorem arriveFrame_mode {p : PortId} {f : Frame} (hm : (arriveFrame p f s).mode ≠ s.mode) :
    f.kind = kindMgmt ∧ ∃ t1 t0 b, f.payload = [0x02, t1, t0, b] := by
  unfold arriveFrame at hm
  split at hm
  next hr =>
    split at hm
    · obtain ⟨-, hk, -, -, hpay⟩ := receiveFrame_mode (isRunning_iff.mp hr) hm
      exact ⟨hk, hpay⟩
    · exact absurd (putPort_mode p _ s) hm
  · exact absurd (putPort_mode _ _ s) hm

/-- A frame of another kind than MGMT keeps the mode. -/
theorem arriveFrame_mode_of_kind {p : PortId} {f : Frame} (hk : f.kind ≠ kindMgmt) : (arriveFrame p f s).mode = s.mode :=
  by_contra fun hm => hk (arriveFrame_mode hm).1

theorem arriveRequest_mode {src : LineAddr} {seq code : Byte} {tag : BitVec 16} {a : List Byte}
    (hm : (arriveRequest src seq code tag a s).mode ≠ s.mode) : code = 0x02 ∧ ∃ b, a = [b] := by
  obtain ⟨-, t1, t0, b, hpay⟩ := arriveFrame_mode hm
  simp only [makeFrame, beWord, be16, List.cons_append, List.nil_append, List.cons.injEq] at hpay
  obtain ⟨hcode, -, -, ha⟩ := hpay
  exact ⟨hcode, b, ha⟩

theorem sendOrder_mode (e : Order) (s : State) : (sendOrder e s).mode = s.mode := putPort_mode _ _ _

theorem sendByRotation_mode (p : PortId) (s : State) : (sendByRotation p s).mode = s.mode := by
  unfold sendByRotation; split
  next c _ =>
    have hmoved : (moveRotation p c s).mode = s.mode := putPort_mode p _ s
    refine Eq.trans ?_ hmoved
    cases c with
    | reply => exact (sameTables_sendReply _).mode
    | notice => exact (sameTables_sendNotice _).mode
    | normalOrder =>
      unfold sendCandidate
      dsimp only
      split
      · exact sendOrder_mode _ _
      · rfl
    | forward => exact (sameTables_sendForward p _).mode
  · rfl

theorem startField_mode (s : State) : (startField s).mode = s.mode := by
  unfold startField; split
  · split
    · exact sendOrder_mode _ s
    · exact sendByRotation_mode _ s
  · rfl

theorem startUplink_mode (s : State) : (startUplink s).mode = s.mode := by
  unfold startUplink; split
  · exact sendByRotation_mode _ s
  · rfl

/-! ## The receive check (R142, R143) -/

theorem frameBody_length (dest src : LineAddr) (kind seq : Byte) (l : List Byte) :
    (frameBody dest src kind seq l).length = 7 + l.length := by
  simp [frameBody]; omega

theorem frame_bytes_length (f : Frame) : f.bytes.length = 9 + f.payload.length := by
  simp [Frame.bytes, frameBody_length]; omega

/-- The bytes of a frame whose CHECK is right are read back. -/
theorem parseFrame_bytes {f : Frame} (hl : f.payload.length ≤ 120)
    (hc : f.check = crc (frameBody f.dest f.src f.kind f.seq f.payload)) : parseFrame f.bytes = some f := by
  have hlen : (u8 f.payload.length).toNat = f.payload.length := by rw [u8_toNat]; omega
  have hbytes : f.bytes = u8 (f.dest.toNat / 256) :: u8 f.dest.toNat :: u8 (f.src.toNat / 256) :: u8 f.src.toNat :: f.kind ::
      f.seq :: u8 f.payload.length :: (f.payload ++ [u8 (f.check.toNat / 256), u8 f.check.toNat]) := by
    simp [Frame.bytes, frameBody, beWord, be16]
  rw [hbytes, parseFrame, if_pos (by simp [hlen, hl])]
  simp [hlen, ← hc]

/-- Whatever passes the receive check is the bytes of a frame whose CHECK is right. -/
theorem parseFrame_some {bytes : List Byte} {f : Frame} (h : parseFrame bytes = some f) :
    f.bytes = bytes ∧ f.payload.length ≤ 120 ∧ f.check = crc (frameBody f.dest f.src f.kind f.seq f.payload) := by
  unfold parseFrame at h
  split at h
  next d1 d0 s1 s0 kind seq len rest =>
    split at h
    next hlen =>
      obtain ⟨h120, hrest⟩ := hlen
      dsimp only at h
      split at h
      next c1 c0 hdrop =>
        split at h
        next hc =>
          cases h
          have htake : (rest.take len.toNat).length = len.toNat := by
            rw [List.length_take, hrest]; omega
          refine ⟨?_, by simp only [htake]; exact h120, hc⟩
          simp only [Frame.bytes, frameBody, beWord_word, htake, u8_byte]
          simp only [List.cons_append, List.nil_append, List.cons.injEq, true_and]
          rw [← hdrop, List.take_append_drop]
        · cases h
      · cases h
    · cases h
  · cases h

/-- The byte of LEN, and the bytes of the CHECK and of what it covers, of a frame that passes the receive check. -/
theorem parseFrame_fields {bytes : List Byte} {f : Frame} (h : parseFrame bytes = some f) :
    bytes.length = 9 + (bytes.getD 6 0).toNat ∧ (bytes.getD 6 0).toNat ≤ 120 ∧
      bytes.getD (7 + (bytes.getD 6 0).toNat) 0 ++ bytes.getD (8 + (bytes.getD 6 0).toNat) 0
        = crc (bytes.take (7 + (bytes.getD 6 0).toNat)) := by
  obtain ⟨rfl, h120, hc⟩ := parseFrame_some h
  have hlen : (f.bytes.getD 6 0).toNat = f.payload.length := by
    have : f.bytes.getD 6 0 = u8 f.payload.length := rfl
    rw [this, u8_toNat]; omega
  have hbody := frameBody_length f.dest f.src f.kind f.seq f.payload
  have hget : ∀ k, f.bytes.getD (7 + f.payload.length + k) 0 = (beWord f.check).getD k 0 := fun k => by
    rw [Frame.bytes, ← hbody, List.getD_append_right _ _ _ _ (by omega)]
    congr 1
    omega
  rw [hlen, frame_bytes_length]
  refine ⟨rfl, h120, ?_⟩
  have htake : f.bytes.take (7 + f.payload.length) = frameBody f.dest f.src f.kind f.seq f.payload := by
    rw [Frame.bytes, ← hbody, List.take_left]
  rw [htake, ← hc, show 8 + f.payload.length = 7 + f.payload.length + 1 by omega, hget 1]
  exact (congrArg (fun b : Byte => (b ++ (beWord f.check).getD 1 0 : BitVec 16)) (hget 0)).trans (word_of_bytes f.check)

/-! ## Arrival of a frame's bytes -/

/-- The bytes of a frame do what the frame does. -/
theorem arriveBytes_bytes {f : Frame} (p : PortId) (hl : f.payload.length ≤ 120)
    (hc : f.check = crc (frameBody f.dest f.src f.kind f.seq f.payload)) : arriveBytes p f.bytes s = arriveFrame p f s := by
  unfold arriveBytes arriveFrame
  rw [parseFrame_bytes hl hc, if_pos hl]

theorem arriveBytes_parsed {bytes : List Byte} {f : Frame} (p : PortId) (hs : s.activity = .running)
    (h : parseFrame bytes = some f) : arriveBytes p bytes s = receiveFrame p f s := by
  rw [arriveBytes, if_pos (isRunning_iff.mpr hs), h]

/-- In BYPASS a frame that is not taken is forwarded (R145). -/
theorem receiveFrame_bypass {p : PortId} {f : Frame} (hm : s.mode = .bypass)
    (h : ¬ (p = .uplink ∧ f.kind = kindMgmt ∧ f.dest = s.ownAddr ∧ f.src ≠ 0x0000)) :
    receiveFrame p f s = forward p f s := by
  unfold receiveFrame
  rw [if_neg, hm]
  simp only [Frame.toPart, Bool.and_eq_true, decide_eq_true_eq]
  rintro ⟨⟨⟨hk, hd⟩, hp⟩, hsrc⟩
  exact h ⟨hp, hk, hd, hsrc⟩

/-! ## The statements settled -/

/-- Settles O3: every command is one of `Did`, none of which touches the queue. -/
theorem everyCommandHasANextState : Obligations.EveryCommandHasANextState := by
  intro c s
  obtain ⟨t, ht, hd⟩ := did_exec c s
  exact ⟨t, ht, hd.pending⟩

/-- Settles O15: an event's work keeps the mode, and of the requests only SET_MODE sets it. -/
theorem whatChangesTheMode : Obligations.WhatChangesTheMode := by
  intro c s t hwf ht hm
  have hevent : ∀ {u}, Event s u → t = u → False := fun e htu => hm (htu ▸ e.mode)
  have hframe : ∀ {p f}, f.kind ≠ kindMgmt → t = arriveFrame p f s → False := fun hk htf =>
    hm (htf ▸ arriveFrame_mode_of_kind hk)
  have hrequest : ∀ {src seq code tag a}, code ≠ (0x02 : Byte) → t = arriveRequest src seq code tag a s → False :=
    fun hcode htf => hcode (arriveRequest_mode (htf ▸ hm)).1
  have hnext : ∀ {u}, exec c s = .next u → t = u := fun hu => by rw [ht] at hu; exact (Host.Outcome.next.inj hu)
  cases c with
  | setMode src seq tag a =>
    obtain ⟨-, b, rfl⟩ := arriveRequest_mode (hnext rfl ▸ hm)
    exact .inl ⟨src, seq, tag, b, rfl⟩
  | startUpHoldEnd straps autorun => exact .inr (.inl ⟨straps, autorun, rfl⟩)
  | frameArrival p bytes =>
    obtain ⟨rfl, f, t1, t0, b, hf, hk, hd, hsrc, hpay⟩ := arriveBytes_mode (hnext rfl ▸ hm)
    exact .inr (.inr ⟨bytes, f, t1, t0, b, rfl, hf, hk, hd, hsrc, hpay⟩)
  | unknownRequest src seq tag code a =>
    refine (hrequest ?_ (hnext rfl)).elim
    rintro rfl
    simp [Instr.wellFormed, requestCodes] at hwf
  | sampleFrame => exact (hframe (by simp [makeFrame, kindSample, kindMgmt]) (hnext rfl)).elim
  | breakerReport => exact (hframe (by simp [makeFrame, kindBreaker, kindMgmt]) (hnext rfl)).elim
  | testResultFrame => exact (hframe (by simp [makeFrame, kindTestResult, kindMgmt]) (hnext rfl)).elim
  | orderInterceptSection => exact (hframe (by simp [makeFrame, kindOrder, kindMgmt]) (hnext rfl)).elim
  | orderInterceptFrog => exact (hframe (by simp [makeFrame, kindOrder, kindMgmt]) (hnext rfl)).elim
  | skateFrame => exact (hframe (by simp [makeFrame, kindSkate, kindMgmt]) (hnext rfl)).elim
  | positionReport => exact (hframe (by simp [makeFrame, kindPosition, kindMgmt]) (hnext rfl)).elim
  | vehicleFrame => exact (hframe (by simp [makeFrame, kindVehicle, kindMgmt]) (hnext rfl)).elim
  | ackFrame => exact (hframe (by simp [makeFrame, kindAck, kindMgmt]) (hnext rfl)).elim
  | silenceTimerExpiry i => exact (hevent (.ofSection (.silence i)) (hnext rfl)).elim
  | openTimeoutExpiry i => exact (hevent (.ofSection (.openTimeout i)) (hnext rfl)).elim
  | closeTimeoutExpiry i => exact (hevent (.ofSection (.closeTimeout i)) (hnext rfl)).elim
  | testTimeoutExpiry i => exact (hevent (.ofSection (.testTimeout i)) (hnext rfl)).elim
  | deadWaitExpiry i => exact (hevent (.ofSection (.deadWait i)) (hnext rfl)).elim
  | reclaimExpiry i => exact (hevent (.ofSection (.reclaim i)) (hnext rfl)).elim
  | reclaimPeriodEnd i => exact (hevent (.ofSection (.reclaimPeriod i)) (hnext rfl)).elim
  | settleExpiry f => exact (hevent (.ofVehicle (.settle f)) (hnext rfl)).elim
  | skateHoldExpiry f => exact (hevent (.ofVehicle (.hold f)) (hnext rfl)).elim
  | throwTimerExpiry f => exact (hevent (.ofFrog (.throwTimeout f)) (hnext rfl)).elim
  | exitTimerExpiry f => exact (hevent (.ofFrog (.exitTimeout f)) (hnext rfl)).elim
  | exitTimerFirstPeriodEnd f => exact (hevent (.ofFrog (.exitPeriod f)) (hnext rfl)).elim
  | ageTimerExpiry n => exact (hevent (.ofVehicle (.age n)) (hnext rfl)).elim
  | ageTimerPeriodEnd n => exact (hevent (.ofVehicle (.agePeriod n)) (hnext rfl)).elim
  | ackTimerExpiry a => exact (hevent (.ofSection (.ackTimeout a)) (hnext rfl)).elim
  | fieldFrameStart => exact absurd (hnext rfl ▸ startField_mode s) hm
  | uplinkFrameStart => exact absurd (hnext rfl ▸ startUplink_mode s) hm
  | status => exact (hrequest (by decide) (hnext rfl)).elim
  | restart => exact (hrequest (by decide) (hnext rfl)).elim
  | setGlobals => exact (hrequest (by decide) (hnext rfl)).elim
  | loadSection => exact (hrequest (by decide) (hnext rfl)).elim
  | unloadSection => exact (hrequest (by decide) (hnext rfl)).elim
  | loadFrog => exact (hrequest (by decide) (hnext rfl)).elim
  | unloadFrog => exact (hrequest (by decide) (hnext rfl)).elim
  | loadFilter => exact (hrequest (by decide) (hnext rfl)).elim
  | readSection => exact (hrequest (by decide) (hnext rfl)).elim
  | readFrog => exact (hrequest (by decide) (hnext rfl)).elim
  | readVehicle => exact (hrequest (by decide) (hnext rfl)).elim
  | readOrders => exact (hrequest (by decide) (hnext rfl)).elim
  | popFault => exact (hrequest (by decide) (hnext rfl)).elim
  | signOffVehicle => exact (hrequest (by decide) (hnext rfl)).elim
  | blockFrog => exact (hrequest (by decide) (hnext rfl)).elim
  | clearBlock => exact (hrequest (by decide) (hnext rfl)).elim
  | flushFrog => exact (hrequest (by decide) (hnext rfl)).elim
  | powerOnReset => exact absurd (hnext rfl ▸ beginReset_mode .powerOn s) hm
  | supplyDipReset => exact absurd (hnext rfl ▸ beginReset_mode .supplyDip s) hm
  | resetPin => exact absurd (hnext rfl ▸ beginReset_mode .resetPin s) hm
  | resetEnd =>
    have hend : (endReset s).mode = s.mode := by unfold endReset; split <;> rfl
    exact absurd (hnext rfl ▸ hend) hm

/-- Settles O16. -/
theorem frameBytesAndReceiveCheckAgree : Obligations.FrameBytesAndReceiveCheckAgree :=
  ⟨fun _ => parseFrame_bytes, fun _ _ => parseFrame_some⟩

/-- Settles O18: a frame that passes the receive check has none of the four faults. -/
theorem badFrameSetsCheckErr : Obligations.BadFrameSetsCheckErr := by
  intro s p bytes hr hbad
  have hnone : parseFrame bytes = none := by
    by_contra hsome
    obtain ⟨f, hf⟩ := Option.ne_none_iff_exists'.mp hsome
    obtain ⟨hlen, h120, hcheck⟩ := parseFrame_fields hf
    obtain h | h | h | h := hbad
    · omega
    · omega
    · exact h hlen
    · exact h hcheck
  simp [exec, execFrameArrival, arriveBytes, isRunning_iff.mpr hr, hnone, setCheckErr]

/-- Settles O19: in BYPASS a frame that is not taken is forwarded, and the forward queue decides. -/
theorem bypassForwardsUnaltered : Obligations.BypassForwardsUnaltered := by
  intro s p f bytes hr hm hf hnot
  have hrun : exec (.frameArrival p bytes) s = .next (forward p f s) := by
    rw [← receiveFrame_bypass hm hnot, ← arriveBytes_parsed p hr hf]; rfl
  rw [hrun]
  refine ⟨(parseFrame_some hf).1, fun hl => ?_, fun hl => ?_⟩
  · obtain ⟨-, e⟩ | ⟨hge, -⟩ := forward_cases p f s
    · rw [e]
    · omega
  · obtain ⟨hlt, -⟩ | ⟨-, e⟩ := forward_cases p f s
    · omega
    · rw [e]

end Sys2Proof.Machine
end

section
/-!
PROOFS. Argument lists read back (sections 10.3 and 10.4), notices and refused orders (R105, R147, R148, R157, R158), the timers
kept in whole seconds (R27, R48, R123), and the frame starts of the two arbiters (R135, R136, R151 to R154). The statements
settled stand at the end.
-/

namespace Sys2Proof.Machine

variable {s t : State}

/-! ## Arguments (sections 10.3, 10.4) -/

theorem inRange_iff {lo hi n : Nat} : inRange lo hi n = true ↔ lo ≤ n ∧ n ≤ hi := by simp [inRange]

theorem u8_value {n : Nat} (h : n < 256) : (u8 n).toNat = n := by rw [u8_toNat]; omega

theorem lt_of_inRange {lo hi n k : Nat} (h : inRange lo hi n = true) (hk : hi < k) : n < k :=
  Nat.lt_of_le_of_lt (inRange_iff.mp h).2 hk

theorem argU8_of_bytes {a : List Byte} {k n : Nat} (h : a.getD k 0 = u8 n) (hn : n < 256) : argU8 a k = n := by
  rw [argU8, h, u8_value hn]

theorem argU16_of_bytes {a : List Byte} {k n : Nat} (h : a.getD k 0 = u8 (n / 256)) (h' : a.getD (k + 1) 0 = u8 n)
    (hn : n < 65536) : argU16 a k = n := by
  rw [argU16, argU8, argU8, h, h', be16_value hn]

theorem argU32_of_bytes {a : List Byte} {k n : Nat} (h : a.getD k 0 = u8 (n / 16777216)) (h1 : a.getD (k + 1) 0 = u8 (n / 65536))
    (h2 : a.getD (k + 2) 0 = u8 (n / 256)) (h3 : a.getD (k + 3) 0 = u8 n) (hn : n < 4294967296) : argU32 a k = n := by
  rw [argU32, argU16, argU16, argU8, argU8, argU8, argU8, h, h1, h2, h3, be32_value hn]

theorem argWord_of_bytes {a : List Byte} {k : Nat} {w : BitVec 16} (h : a.getD k 0 = u8 (w.toNat / 256))
    (h' : a.getD (k + 1) 0 = u8 w.toNat) : argWord a k = w := by
  rw [argWord, h, h', word_of_bytes]

theorem SectionParams.bytes_eq (p : SectionParams) : p.bytes =
    [u8 (p.feederAddr.toNat / 256), u8 p.feederAddr.toNat, u8 p.testUnit.val, u8 (p.ic / 256), u8 p.ic, u8 (p.iInst /
      256), u8 p.iInst, u8 (p.didtStart / 256), u8 p.didtStart, u8 p.windowMax, u8 (p.deltaBase / 256), u8
      p.deltaBase, u8 (p.vehAllow / 256), u8 p.vehAllow, u8 p.vehCap, u8 (p.hTrip / 16777216), u8 (p.hTrip / 65536),
      u8 (p.hTrip / 256), u8 p.hTrip, u8 (p.silenceTime / 256), u8 p.silenceTime, u8 (p.vDead / 256), u8 p.vDead, u8
      (p.supplyLossTime / 256), u8 p.supplyLossTime, u8 (p.rMin / 256), u8 p.rMin, u8 p.recloseMax, u8 (p.recloseDead
      / 256), u8 p.recloseDead, u8 (p.reclaimTime / 256), u8 p.reclaimTime, u8 (p.openTimeout / 256), u8
      p.openTimeout, u8 (p.closeTimeout / 256), u8 p.closeTimeout, u8 (p.testTimeout / 256), u8 p.testTimeout] := by
  unfold SectionParams.bytes
  simp only [beWord, be16, be32, List.cons_append, List.nil_append]

/-- LOAD_SECTION's layout carries every field in range (R167). -/
theorem sectionParamsAt_bytes (b : Byte) {p : SectionParams} (h : p.inRanges = true) :
    sectionParamsAt (b :: p.bytes) p.testUnit = p := by
  simp only [SectionParams.inRanges, Bool.and_eq_true, and_assoc] at h
  obtain ⟨-, hic, hinst, hdidt, hmax, hbase, hallow, hcap, htrip, hsilence, hdead, hloss, hrmin, hreclose, hwait, hreclaim,
    hopen, hclose, htest⟩ := h
  have hic' : argU16 (b :: p.bytes) 4 = p.ic := by
    rw [SectionParams.bytes_eq]; exact argU16_of_bytes rfl rfl (lt_of_inRange hic (by decide))
  have hinst' : argU16 (b :: p.bytes) 6 = p.iInst := by
    rw [SectionParams.bytes_eq]; exact argU16_of_bytes rfl rfl (lt_of_inRange hinst (by decide))
  have hdidt' : argU16 (b :: p.bytes) 8 = p.didtStart := by
    rw [SectionParams.bytes_eq]; exact argU16_of_bytes rfl rfl (lt_of_inRange hdidt (by decide))
  have hmax' : argU8 (b :: p.bytes) 10 = p.windowMax := by
    rw [SectionParams.bytes_eq]; exact argU8_of_bytes rfl (lt_of_inRange hmax (by decide))
  have hbase' : argU16 (b :: p.bytes) 11 = p.deltaBase := by
    rw [SectionParams.bytes_eq]; exact argU16_of_bytes rfl rfl (lt_of_inRange hbase (by decide))
  have hallow' : argU16 (b :: p.bytes) 13 = p.vehAllow := by
    rw [SectionParams.bytes_eq]; exact argU16_of_bytes rfl rfl (lt_of_inRange hallow (by decide))
  have hcap' : argU8 (b :: p.bytes) 15 = p.vehCap := by
    rw [SectionParams.bytes_eq]; exact argU8_of_bytes rfl (lt_of_inRange hcap (by decide))
  have htrip' : argU32 (b :: p.bytes) 16 = p.hTrip := by
    rw [SectionParams.bytes_eq]; exact argU32_of_bytes rfl rfl rfl rfl (lt_of_inRange htrip (by decide))
  have hsilence' : argU16 (b :: p.bytes) 20 = p.silenceTime := by
    rw [SectionParams.bytes_eq]; exact argU16_of_bytes rfl rfl (lt_of_inRange hsilence (by decide))
  have hdead' : argU16 (b :: p.bytes) 22 = p.vDead := by
    rw [SectionParams.bytes_eq]; exact argU16_of_bytes rfl rfl (lt_of_inRange hdead (by decide))
  have hloss' : argU16 (b :: p.bytes) 24 = p.supplyLossTime := by
    rw [SectionParams.bytes_eq]; exact argU16_of_bytes rfl rfl (lt_of_inRange hloss (by decide))
  have hrmin' : argU16 (b :: p.bytes) 26 = p.rMin := by
    rw [SectionParams.bytes_eq]; exact argU16_of_bytes rfl rfl (lt_of_inRange hrmin (by decide))
  have hreclose' : argU8 (b :: p.bytes) 28 = p.recloseMax := by
    rw [SectionParams.bytes_eq]; exact argU8_of_bytes rfl (lt_of_inRange hreclose (by decide))
  have hwait' : argU16 (b :: p.bytes) 29 = p.recloseDead := by
    rw [SectionParams.bytes_eq]; exact argU16_of_bytes rfl rfl (lt_of_inRange hwait (by decide))
  have hreclaim' : argU16 (b :: p.bytes) 31 = p.reclaimTime := by
    rw [SectionParams.bytes_eq]; exact argU16_of_bytes rfl rfl (lt_of_inRange hreclaim (by decide))
  have hopen' : argU16 (b :: p.bytes) 33 = p.openTimeout := by
    rw [SectionParams.bytes_eq]; exact argU16_of_bytes rfl rfl (lt_of_inRange hopen (by decide))
  have hclose' : argU16 (b :: p.bytes) 35 = p.closeTimeout := by
    rw [SectionParams.bytes_eq]; exact argU16_of_bytes rfl rfl (lt_of_inRange hclose (by decide))
  have htest' : argU16 (b :: p.bytes) 37 = p.testTimeout := by
    rw [SectionParams.bytes_eq]; exact argU16_of_bytes rfl rfl (lt_of_inRange htest (by decide))
  have haddr : argWord (b :: p.bytes) 1 = p.feederAddr := by
    rw [SectionParams.bytes_eq]; exact argWord_of_bytes rfl rfl
  simp only [sectionParamsAt, haddr, hic', hinst', hdidt', hmax', hbase', hallow', hcap', htrip', hsilence', hdead', hloss',
    hrmin', hreclose', hwait', hreclaim', hopen', hclose', htest']

theorem parseLoadSection_bytes (i : SectionIx) {p : SectionParams} (h : p.inRanges = true) :
    parseLoadSection (u8 i.val :: p.bytes) = some (i, p) := by
  have hindex : indexOf 48 (argU8 (u8 i.val :: p.bytes) 0) = some i := indexOf_u8 i (by omega)
  have hunit : indexOf 12 (argU8 (u8 i.val :: p.bytes) 3) = some p.testUnit := by
    rw [SectionParams.bytes_eq]; exact indexOf_u8 p.testUnit (by omega)
  unfold parseLoadSection
  simp only [hindex, hunit, sectionParamsAt_bytes _ h, h, if_true]

theorem twoCode_route (r : Route) : twoCode Route.normal Route.reverse r.code.toNat = some r := by
  cases r <;> rfl

theorem twoCode_flag (b : Bool) : twoCode false true (flagByte b).toNat = some b := by
  cases b <;> rfl

theorem twoCode_arbMode (m : ArbMode) : twoCode ArbMode.fixed ArbMode.rotating m.code.toNat = some m := by
  cases m <;> rfl

theorem FrogParams.bytes_eq (p : FrogParams) : p.bytes =
    [u8 (p.ctrlAddr.toNat / 256), u8 p.ctrlAddr.toNat, u8 p.powerSection.val, u8 p.normalLeg.val, u8
      p.reverseLeg.val, p.dflt.code, flagByte p.returns, u8 (p.throwTimeout / 256), u8 p.throwTimeout, u8
      (p.exitTimeout / 16777216), u8 (p.exitTimeout / 65536), u8 (p.exitTimeout / 256), u8 p.exitTimeout, u8 (p.wMin /
      256), u8 p.wMin, u8 (p.wMax / 256), u8 p.wMax, u8 (p.bounceGap / 256), u8 p.bounceGap, u8 p.bounceMax, u8
      (p.skateHold / 256), u8 p.skateHold, p.drawSense.code] := by
  unfold FrogParams.bytes
  simp only [beWord, be16, be32, List.cons_append, List.nil_append]

/-- LOAD_FROG's layout carries every field in range (R169). -/
theorem frogParamsAt_bytes (b : Byte) {p : FrogParams} (h : p.inRanges = true) :
    frogParamsAt (b :: p.bytes) p.powerSection p.normalLeg p.reverseLeg p.dflt p.returns p.drawSense = p := by
  simp only [FrogParams.inRanges, Bool.and_eq_true, and_assoc] at h
  obtain ⟨-, hthrow, hexit, hmin, hmax, -, hgap, hbounces, hhold⟩ := h
  have hthrow' : argU16 (b :: p.bytes) 8 = p.throwTimeout := by
    rw [FrogParams.bytes_eq]; exact argU16_of_bytes rfl rfl (lt_of_inRange hthrow (by decide))
  have hexit' : argU32 (b :: p.bytes) 10 = p.exitTimeout := by
    rw [FrogParams.bytes_eq]; exact argU32_of_bytes rfl rfl rfl rfl (lt_of_inRange hexit (by decide))
  have hmin' : argU16 (b :: p.bytes) 14 = p.wMin := by
    rw [FrogParams.bytes_eq]; exact argU16_of_bytes rfl rfl (lt_of_inRange hmin (by decide))
  have hmax' : argU16 (b :: p.bytes) 16 = p.wMax := by
    rw [FrogParams.bytes_eq]; exact argU16_of_bytes rfl rfl (lt_of_inRange hmax (by decide))
  have hgap' : argU16 (b :: p.bytes) 18 = p.bounceGap := by
    rw [FrogParams.bytes_eq]; exact argU16_of_bytes rfl rfl (lt_of_inRange hgap (by decide))
  have hbounces' : argU8 (b :: p.bytes) 20 = p.bounceMax := by
    rw [FrogParams.bytes_eq]; exact argU8_of_bytes rfl (lt_of_inRange hbounces (by decide))
  have hhold' : argU16 (b :: p.bytes) 21 = p.skateHold := by
    rw [FrogParams.bytes_eq]; exact argU16_of_bytes rfl rfl (lt_of_inRange hhold (by decide))
  have haddr : argWord (b :: p.bytes) 1 = p.ctrlAddr := by
    rw [FrogParams.bytes_eq]; exact argWord_of_bytes rfl rfl
  simp only [frogParamsAt, haddr, hthrow', hexit', hmin', hmax', hgap', hbounces', hhold']

theorem parseLoadFrog_bytes (f : FrogIx) {p : FrogParams} (h : p.inRanges = true) :
    parseLoadFrog (u8 f.val :: p.bytes) = some (f, p) := by
  have hindex : indexOf 64 (argU8 (u8 f.val :: p.bytes) 0) = some f := indexOf_u8 f (by omega)
  have hpower : indexOf 48 (argU8 (u8 f.val :: p.bytes) 3) = some p.powerSection := by
    rw [FrogParams.bytes_eq]; exact indexOf_u8 _ (by omega)
  have hnormal : indexOf 48 (argU8 (u8 f.val :: p.bytes) 4) = some p.normalLeg := by
    rw [FrogParams.bytes_eq]; exact indexOf_u8 _ (by omega)
  have hreverse : indexOf 48 (argU8 (u8 f.val :: p.bytes) 5) = some p.reverseLeg := by
    rw [FrogParams.bytes_eq]; exact indexOf_u8 _ (by omega)
  have hdflt : twoCode Route.normal Route.reverse (argU8 (u8 f.val :: p.bytes) 6) = some p.dflt := by
    rw [FrogParams.bytes_eq]; exact twoCode_route _
  have hreturns : twoCode false true (argU8 (u8 f.val :: p.bytes) 7) = some p.returns := by
    rw [FrogParams.bytes_eq]; exact twoCode_flag _
  have hsense : twoCode Route.normal Route.reverse (argU8 (u8 f.val :: p.bytes) 23) = some p.drawSense := by
    rw [FrogParams.bytes_eq]; exact twoCode_route _
  unfold parseLoadFrog
  simp only [hindex, hpower, hnormal, hreverse, hdflt, hreturns, hsense, frogParamsAt_bytes _ h, h, if_true]

/-- SET_GLOBALS's layout carries the six values in range (R166). -/
theorem parseGlobals_bytes {g : Globals} (h1 : g.centreAddr.toNat ≤ 0xFFFE) (h2 : 5 ≤ g.ackTimeout ∧ g.ackTimeout ≤ 1000)
    (h3 : 1 ≤ g.settle ∧ g.settle ≤ 200) (h4 : g.vehAge = 0 ∨ 10 ≤ g.vehAge ∧ g.vehAge ≤ 3600) :
    parseGlobals g.bytes = some g := by
  have hcentre : argU16 g.bytes 0 = g.centreAddr.toNat := be16_value g.centreAddr.isLt
  have hack : argU16 g.bytes 2 = g.ackTimeout := be16_value (by omega)
  have hsettle : argU8 g.bytes 6 = g.settle := u8_value (by omega)
  have hage : argU16 g.bytes 7 = g.vehAge := be16_value (by omega)
  have hfield : twoCode ArbMode.fixed ArbMode.rotating (argU8 g.bytes 4) = some g.arbField := twoCode_arbMode _
  have huplink : twoCode ArbMode.fixed ArbMode.rotating (argU8 g.bytes 5) = some g.arbUplink := twoCode_arbMode _
  have hword : argWord g.bytes 0 = g.centreAddr := word_of_bytes g.centreAddr
  unfold parseGlobals
  simp only [hfield, huplink, hcentre, hack, hsettle, hage, hword, inRange_iff]
  rw [if_pos ⟨h1, h2, h3, h4⟩]

/-- LOAD_FILTER's layout, with the codes of the rule's port and kind given (R170). -/
theorem parseLoadFilter_layout {a : List Byte} (r : RuleIx) {rule : FilterRule} {port high low : Byte}
    (ha : a = [u8 r.val, if rule.inUse then 0x01 else 0x00, port, high, low, u8 (rule.srcLow.toNat / 256),
      u8 rule.srcLow.toNat, u8 (rule.srcHigh.toNat / 256), u8 rule.srcHigh.toNat, if rule.hold then 0x01 else 0x00])
    (hport : parseRulePort port.toNat = some rule.port) (hkind : parseRuleKind (word high low).toNat = some rule.kind)
    (hrange : rule.srcLow.toNat ≤ rule.srcHigh.toNat) : parseLoadFilter a = some (r, rule) := by
  have hindex : indexOf 32 (argU8 a 0) = some r := by rw [ha]; exact indexOf_u8 r (by omega)
  have huse : twoCode false true (argU8 a 1) = some rule.inUse := by rw [ha]; exact twoCode_flag _
  have hhold : twoCode false true (argU8 a 9) = some rule.hold := by rw [ha]; exact twoCode_flag _
  have hport' : parseRulePort (argU8 a 2) = some rule.port := by rw [ha]; exact hport
  have hkind' : parseRuleKind (argWord a 3).toNat = some rule.kind := by rw [ha]; exact hkind
  have hlow : argWord a 5 = rule.srcLow := by rw [ha]; exact argWord_of_bytes rfl rfl
  have hhigh : argWord a 7 = rule.srcHigh := by rw [ha]; exact argWord_of_bytes rfl rfl
  rw [parseLoadFilter_eq_some hindex huse hport' hkind' (by rw [hlow, hhigh]; exact hrange) hhold, hlow, hhigh]

/-! ## Notices (R105, R157, R158) and ORDERs of a wrong kind (R147, R148) -/

theorem raise_uncentred (b : NoticeBody) (h : s.globals.centreAddr = 0x0000) : raise b s = s := if_pos h

theorem raise_queued (b : NoticeBody) (h : s.globals.centreAddr ≠ 0x0000) (hl : s.notices.length < 24) :
    raise b s = s.setNotices (s.notices ++ [{ dest := s.globals.centreAddr, body := b }]) := by
  exact (if_neg h).trans (if_pos hl)

theorem raise_lost (b : NoticeBody) (h : s.globals.centreAddr ≠ 0x0000) (hl : 24 ≤ s.notices.length) :
    raise b s = s.setNoticeLost true := by
  exact (if_neg h).trans (if_neg (Nat.not_lt.mpr hl))

theorem raiseFrog_eq {f : FrogIx} {g : Frog} (h : s.frog f = some g) :
    raiseFrog f s = raise (.frogState f g.position (headView g.queue) g.queue.length) s := by
  unfold raiseFrog; rw [h]

theorem parseOrderKind_eq_some {b : Byte} {k : OrderKind} (h : parseOrderKind b = some k) : b = k.code := by
  refine BitVec.eq_of_toNat_eq ?_
  unfold parseOrderKind at h
  split at h <;> cases h <;> assumption

/-- An ORDER payload that fits is the code of its kind alone (section 8.1). -/
theorem parseOrder_eq_some {payload : List Byte} {k : OrderKind} (h : parseOrder payload = some k) : payload = [k.code] := by
  match payload, h with
  | [b], h => rw [parseOrderKind_eq_some h]

/-- An ORDER that is no TRIP, OPEN or CLOSE is refused by a section with KIND (R147). -/
theorem interceptSection_wrongKind {i : SectionIx} {x : Sect} {payload : List Byte} (hx : s.sect i = some x)
    (h : payload ∉ [[(0x01 : Byte)], [0x02], [0x03]]) :
    interceptSection i payload s = raise (.orderRefused x.params.feederAddr (payload.headD 0x00) .kind) s := by
  unfold interceptSection
  rw [hx]
  cases hk : parseOrder payload with
  | none => rfl
  | some k =>
    obtain rfl := parseOrder_eq_some hk
    cases k with
    | trip | opening | close => exact absurd (by decide) h
    | test | throwNormal | throwReverse => rfl

/-- An ORDER that is no THROW is refused by a frog with KIND (R148). -/
theorem interceptFrog_wrongKind {f : FrogIx} {g : Frog} {payload : List Byte} (hg : s.frog f = some g)
    (h : payload ∉ [[(0x05 : Byte)], [0x06]]) :
    interceptFrog f payload s = raise (.orderRefused g.params.ctrlAddr (payload.headD 0x00) .kind) s := by
  unfold interceptFrog
  rw [hg]
  cases hk : parseOrder payload with
  | none => rfl
  | some k =>
    obtain rfl := parseOrder_eq_some hk
    cases k with
    | throwNormal | throwReverse => exact absurd (by decide) h
    | test | trip | opening | close => rfl

theorem exec_orderInterceptSection {dest src : LineAddr} {payload : List Byte} (hs : s.supervising) (hsrc : src ≠ 0x0000)
    (hl : payload.length ≤ 120) {i : SectionIx} (hi : s.sectAt dest = some i) (seq : Byte) :
    exec (.orderInterceptSection dest src seq payload) s = .next (interceptSection i payload s) :=
  congrArg Host.Outcome.next (arriveFrame_order_section hs (makeFrame dest src kindOrder seq payload) rfl hsrc hl i hi)

theorem exec_orderInterceptFrog {dest src : LineAddr} {payload : List Byte} (hs : s.supervising) (hsrc : src ≠ 0x0000)
    (hl : payload.length ≤ 120) (hi : s.sectAt dest = none) {f : FrogIx} (hf : s.frogAt dest = some f) (seq : Byte) :
    exec (.orderInterceptFrog dest src seq payload) s = .next (interceptFrog f payload s) :=
  congrArg Host.Outcome.next (arriveFrame_order_frog hs (makeFrame dest src kindOrder seq payload) rfl hsrc hl hi f hf)

/-! ## Timers in whole seconds (R27, R48, R123) -/

theorem reclaimExpires_live {i : SectionIx} {x : Sect} (hx : s.sect i = some x) (hl : x.state = .live) :
    reclaimExpires i s
      = if x.timer.expired s.partTime then s.putSect i (some { x with attempts := 0, timer := .stopped }) else s := by
  unfold reclaimExpires; simp [hx, hl]

theorem reclaimPeriod_live {i : SectionIx} {x : Sect} (hx : s.sect i = some x) (hl : x.state = .live) :
    reclaimPeriod i s
      = if x.timer.periodEnded s.partTime then s.putSect i (some { x with timer := x.timer.nextPeriod }) else s := by
  unfold reclaimPeriod; simp [hx, hl]

theorem ageExpiry_held {n : VehicleNumber} {v : Vehicle} (hv : s.vehicle n = some v) :
    ageExpiry n s = if v.ageTimer.expired s.partTime then
      if v.outlives s.globals.vehAge s.partTime then s.editVehicle n (Vehicle.ageRestarted s.globals.vehAge s.partTime)
      else s.setVehicles (eraseVehicle n s.vehicles) else s := by
  unfold ageExpiry; rw [hv]

theorem vehicle_number {n : VehicleNumber} {v : Vehicle} (hv : s.vehicle n = some v) : v.number = n := by
  simpa using List.find?_some (p := fun w : Vehicle => decide (w.number = n)) hv

/-- An entry found by its number is the only one of that number (R106). -/
theorem entry_unique {n : VehicleNumber} {v w : Vehicle} (hd : (s.vehicles.map Vehicle.number).Nodup)
    (hv : s.vehicle n = some v) (hw : w ∈ s.vehicles) (hn : w.number = n) : w = v :=
  List.inj_on_of_nodup_map hd hw (List.mem_of_find?_eq_some hv) (hn.trans (vehicle_number hv).symm)

theorem agePeriod_held {n : VehicleNumber} {v : Vehicle} (hd : (s.vehicles.map Vehicle.number).Nodup)
    (hv : s.vehicle n = some v) : agePeriod n s = if v.ageTimer.periodEnded s.partTime then
      s.editVehicle n fun w => { w with ageTimer := v.ageTimer.nextPeriod } else s := by
  unfold agePeriod State.editVehicle
  split
  next hp =>
    refine congrArg s.setVehicles (List.map_congr_left fun w hw => ?_)
    split
    next hn => rw [entry_unique hd hv hw hn]; exact if_pos hp
    next => rfl
  next hp =>
    refine (congrArg s.setVehicles (List.map_congr_left (g := id) fun w hw => ?_)).trans (by rw [List.map_id]; rfl)
    split
    next hn => rw [entry_unique hd hv hw hn]; exact if_neg hp
    next => rfl

/-! ## Frame starts (R135, R136, R151 to R154) -/

theorem candidateOrder_urgent (s : State) : s.candidateOrder true
    = s.orders.find? fun e => decide (e.state = .queued) && (decide (e.kind = .trip) || decide (e.kind = .opening)) :=
  List.find?_congr fun e _ => by rw [← OrderKind.urgent_eq_decide]; simp

theorem candidateOrder_normal (s : State) : s.candidateOrder false
    = s.orders.find? fun e => decide (e.state = .queued) && !(decide (e.kind = .trip) || decide (e.kind = .opening)) :=
  List.find?_congr fun e _ => by rw [← OrderKind.urgent_eq_decide]; simp

theorem rotated_eq (m : ArbMode) (c : Candidate) (l : List Candidate) :
    rotated m c l = if m = .rotating then (l.filter fun d => decide (d ≠ c)) ++ [c] else l := by
  cases m <;> rfl

theorem startField_urgent {e : Order} (hr : s.activity = .running) (he : s.candidateOrder true = some e) :
    startField s = sendOrder e s := by
  unfold startField; rw [if_pos (isRunning_iff.mpr hr), he]

theorem startField_rotation (hr : s.activity = .running) (he : s.candidateOrder true = none) :
    startField s = sendByRotation .field s := by
  unfold startField; rw [if_pos (isRunning_iff.mpr hr), he]

theorem startUplink_running (hr : s.activity = .running) : startUplink s = sendByRotation .uplink s :=
  if_pos (isRunning_iff.mpr hr)

theorem sendByRotation_picked {p : PortId} {c : Candidate} (h : (s.port p).rotation.find? (present s p) = some c) :
    sendByRotation p s = sendCandidate p c (moveRotation p c s) := by
  unfold sendByRotation; rw [h]

theorem sendByRotation_none {p : PortId} (h : (s.port p).rotation.find? (present s p) = none) : sendByRotation p s = s := by
  unfold sendByRotation; rw [h]

theorem sendForward_cons {p : PortId} {f : Frame} {rest : List Frame} (h : (s.port p).forward = f :: rest) :
    sendForward p s = s.putPort p { s.port p with forward := rest, line := f.bytes } := by
  unfold sendForward; rw [h]

theorem sendReply_cons {r : Reply} {rest : List Reply} (h : s.replies = r :: rest) :
    sendReply s = originate .uplink r.dest kindMgmtReply r.payload (s.setReplies rest) := by
  unfold sendReply; rw [h]

theorem sendNotice_cons {n : Notice} {rest : List Notice} (h : s.notices = n :: rest) :
    sendNotice s = originate .uplink n.dest kindNotice n.body.payload (s.setNotices rest) := by
  unfold sendNotice; rw [h]

theorem sendCandidate_normalOrder {p : PortId} {e : Order} (h : s.candidateOrder false = some e) :
    sendCandidate p .normalOrder s = sendOrder e s := by
  unfold sendCandidate; rw [h]

/-! ## The filter (R144 to R149, R161) -/

theorem RulePort.covers_iff (r : RulePort) (p : PortId) :
    r.covers p = true ↔ r = .either ∨ r = .uplink ∧ p = .uplink ∨ r = .field ∧ p = .field := by
  cases r <;> cases p <;> simp [RulePort.covers]

theorem FilterRule.accepts_iff (r : FilterRule) (p : PortId) (f : Frame) : r.accepts p f = true ↔
    r.inUse = true ∧ (r.port = .either ∨ r.port = .uplink ∧ p = .uplink ∨ r.port = .field ∧ p = .field) ∧
      (r.kind = none ∨ r.kind = some f.kind) ∧ r.srcLow.toNat ≤ f.src.toNat ∧ f.src.toNat ≤ r.srcHigh.toNat := by
  unfold FilterRule.accepts
  cases r.kind <;> simp [RulePort.covers_iff, BitVec.le_def, and_assoc, eq_comm (b := f.kind)]

theorem held_of_first {p : PortId} {f : Frame} {r : RuleIx} (hr : (s.filter.get r).accepts p f = true)
    (hh : (s.filter.get r).hold = true) (hfirst : ∀ k, k < r → ¬ (s.filter.get k).accepts p f = true) :
    held p f s = true := by
  have hfind : ((List.finRange 32).find? fun r => (s.filter.get r).accepts p f) = some r :=
    find?_finRange_some.mpr ⟨hr, fun k hk => not_lt.mp fun hlt => hfirst k hlt hk⟩
  unfold held
  rw [hfind]
  exact hh

theorem not_held {p : PortId} {f : Frame} (h : ∀ r, (s.filter.get r).accepts p f = true → (s.filter.get r).hold = true →
    ∃ k, k < r ∧ (s.filter.get k).accepts p f = true) : held p f s = false := by
  unfold held
  split
  next r hr =>
    obtain ⟨hacc, hfirst⟩ := find?_finRange_some.mp hr
    cases hh : (s.filter.get r).hold with
    | false => rfl
    | true =>
      obtain ⟨k, hlt, hk⟩ := h r hacc hh
      exact absurd (hfirst k hk) (not_le.mpr hlt)
  next => rfl

/-- A frame that is no FIELD frame of a processed kind is not processed (R144, R146). -/
theorem process_left {p : PortId} {f : Frame}
    (h : p = .uplink ∨ f.src = 0x0000 ∨ f.kind ∉ [(0x11 : Byte), 0x12, 0x13, 0x21, 0x22, 0x31, 0x41]) :
    process p f s = s := by
  cases p with
  | uplink => rfl
  | field =>
    obtain h | h | h := h
    · cases h
    · exact if_pos h
    · simp only [List.mem_cons, List.not_mem_nil, or_false, not_or] at h
      obtain ⟨h1, h2, h3, h4, h5, h6, h7⟩ := h
      have hleft : processField f s = s := by
        simp only [processField, kindSample, kindBreaker, kindTestResult, kindPosition, kindSkate, kindVehicle, kindAck, h1, h2,
          h3, h4, h5, h6, h7, if_false]
      exact (congrArg (fun t => if f.src = 0x0000 then s else t) hleft).trans (ite_self s)

/-- A frame that is no ORDER for a supervised device is not intercepted (R146). -/
theorem intercept_none {p : PortId} {f : Frame}
    (h : ¬ (p = .uplink ∧ f.kind = 0x51 ∧ f.src ≠ 0x0000 ∧
      ((s.sectAt f.dest).isSome = true ∨ (s.frogAt f.dest).isSome = true))) :
    intercept p f s = none := by
  unfold intercept
  split
  next hc =>
    obtain ⟨hp, hk, hsrc⟩ := hc
    split
    next i hi => exact absurd ⟨hp, hk, hsrc, .inl (by rw [hi]; rfl)⟩ h
    next =>
      split
      next g hg => exact absurd ⟨hp, hk, hsrc, .inr (by rw [hg]; rfl)⟩ h
      next => rfl
  next => rfl

theorem receiveFrame_field_toPart {f : Frame} (hm : s.mode = .supervise) (hk : f.kind = kindMgmt) (hd : f.dest = s.ownAddr) :
    receiveFrame .field f s = s := by
  unfold receiveFrame
  rw [if_neg (by simp), hm]
  exact if_pos (by simp [Frame.toPart, hk, hd])

/-- In SUPERVISE a frame not taken, not intercepted and not processed is left to the filter (R146). -/
theorem receiveFrame_left {p : PortId} {f : Frame} (hm : s.mode = .supervise)
    (hpart : ¬ (f.kind = kindMgmt ∧ f.dest = s.ownAddr ∧ (p = .field ∨ f.src ≠ 0x0000)))
    (hi : intercept p f s = none) (hp : process p f s = s) : receiveFrame p f s = fileFrame p f s := by
  unfold receiveFrame
  rw [if_neg, hm]
  · dsimp only
    rw [if_neg, hi, hp]
    simp only [Frame.toPart, Bool.and_eq_true, decide_eq_true_eq]
    rintro ⟨⟨hk, hd⟩, hf⟩
    exact hpart ⟨hk, hd, .inl hf⟩
  · simp only [Frame.toPart, Bool.and_eq_true, decide_eq_true_eq]
    rintro ⟨⟨⟨hk, hd⟩, -⟩, hsrc⟩
    exact hpart ⟨hk, hd, .inr hsrc⟩

theorem forward_joined {p : PortId} (f : Frame) (h : (s.port (otherPort p)).forward.length < 32) :
    forward p f s = s.putPort (otherPort p)
      { s.port (otherPort p) with forward := (s.port (otherPort p)).forward ++ [f] } := if_pos h

theorem forward_dropped {p : PortId} (f : Frame) (h : 32 ≤ (s.port (otherPort p)).forward.length) :
    forward p f s = s.putPort p { s.port p with forwardDrop := true } := if_neg (Nat.not_lt.mpr h)

theorem takeMgmt_short {f : Frame} (h : f.payload.length < 3) : takeMgmt f s = s := by
  unfold takeMgmt
  split
  next heq => rw [heq] at h; exact absurd h (by simp)
  next => rfl

/-- The bytes of a frame with its CHECK do what the frame's arrival does (R142, R143). -/
theorem exec_frameArrival_makeFrame (p : PortId) (dest src : LineAddr) (kind seq : Byte) {payload : List Byte}
    (h : payload.length ≤ 120) :
    exec (.frameArrival p (makeFrame dest src kind seq payload).bytes) s
      = .next (arriveFrame p (makeFrame dest src kind seq payload) s) := by
  have hc : (makeFrame dest src kind seq payload).check = crc (frameBody dest src kind seq payload) := by
    simp only [makeFrame]
  rw [← arriveBytes_bytes (f := makeFrame dest src kind seq payload) p h hc]
  rfl

/-! ## The statements settled -/

/-- Settles O17: each layout is read back field by field. -/
theorem loadArgumentsReadBack : Obligations.LoadArgumentsReadBack := by
  refine ⟨fun i p => parseLoadSection_bytes i, fun f p => parseLoadFrog_bytes f, fun r rule hrange => ?_,
    fun g h1 h2 h2' h3 h3' h4 => parseGlobals_bytes h1 ⟨h2, h2'⟩ ⟨h3, h3'⟩ h4⟩
  have hport : parseRulePort (match rule.port with
      | .uplink => (0x00 : Byte)
      | .field => 0x01
      | .either => 0x02).toNat = some rule.port := by cases rule.port <;> rfl
  cases hkind : rule.kind with
  | none => exact parseLoadFilter_layout r rfl hport (hkind ▸ rfl) hrange
  | some k => exact parseLoadFilter_layout r rfl hport (by rw [hkind]; exact parseRuleKind_word (.inl rfl)) hrange

/-- Settles O31: the three fates of a notice, the head FROG_STATE shows, and the refusals of kind KIND. -/
theorem orderOfAWrongKindIsRefused : Obligations.OrderOfAWrongKindIsRefused := by
  refine ⟨fun s b => ⟨raise_uncentred b, raise_queued b, raise_lost b⟩,
    fun s f g hg => ⟨fun hq => ?_, fun r rest hq => ?_⟩,
    fun s dest src seq payload hs hsrc hl => ⟨fun i x hi hx h => ?_, fun f g hi hf hg h => ?_⟩⟩
  · rw [raiseFrog_eq hg, hq]; rfl
  · rw [raiseFrog_eq hg, hq]
    cases hk : r.kind <;> simp [headView, RequestKind.headKind, hk]
  · rw [exec_orderInterceptSection hs hsrc hl hi, interceptSection_wrongKind hx h]
  · rw [exec_orderInterceptFrog hs hsrc hl hi hf, interceptFrog_wrongKind hg h]

/-- Settles O43: each timer's last period and its earlier ones. -/
theorem secondsTimers : Obligations.SecondsTimers := by
  refine ⟨fun s i x hx hl => ⟨fun he => ?_, fun d n p ht hr => ?_, fun he => ?_, fun he => ?_⟩,
    fun s n v hv => ⟨⟨fun he hd hi hb => ?_, fun he hf => ?_⟩, fun he => ?_, fun hd d k p ht hr => ?_, fun hd he => ?_⟩⟩
  · exact congrArg Host.Outcome.next ((reclaimExpires_live hx hl).trans (if_pos he))
  · have he : x.timer.periodEnded s.partTime = true := by rw [ht]; exact hr
    refine congrArg Host.Outcome.next ((reclaimPeriod_live hx hl).trans ((if_pos he).trans ?_))
    rw [ht]; rfl
  · exact congrArg Host.Outcome.next ((reclaimExpires_live hx hl).trans (if_neg (by simp [he])))
  · exact congrArg Host.Outcome.next ((reclaimPeriod_live hx hl).trans (if_neg (by simp [he])))
  · refine congrArg Host.Outcome.next ((ageExpiry_held hv).trans ((if_pos he).trans ?_))
    have ho : v.outlives s.globals.vehAge s.partTime
        = (v.newlyCleared s.globals.vehAge s.partTime && !Config.clearedAgesOut) := by
      simp [Vehicle.outlives, Vehicle.faulted, hd, hi, hb]
    rw [ho]
    simp only [Vehicle.newlyCleared, Nat.mul_comm s.globals.vehAge]
    rfl
  · refine congrArg Host.Outcome.next ((ageExpiry_held hv).trans ((if_pos he).trans (if_pos ?_)))
    have hfault : v.faulted = true := by simpa [Vehicle.faulted, or_assoc] using hf
    simp [Vehicle.outlives, hfault]
  · exact congrArg Host.Outcome.next ((ageExpiry_held hv).trans (if_neg (by simp [he])))
  · have he : v.ageTimer.periodEnded s.partTime = true := by rw [ht]; exact hr
    refine congrArg Host.Outcome.next ((agePeriod_held hd hv).trans ((if_pos he).trans ?_))
    rw [ht]; rfl
  · exact congrArg Host.Outcome.next ((agePeriod_held hd hv).trans (if_neg (by simp [he])))

/-- Settles O46: the urgent order first, else the first present candidate of the rotation order. -/
theorem fieldFrameStart : Obligations.FieldFrameStart := by
  intro s hr hrot
  dsimp only
  rw [← candidateOrder_urgent, ← candidateOrder_normal, ← rotated_eq, ← rotated_eq]
  have hfind : s.field.rotation.find? (present s .field) = s.field.rotation.find? fun c => match c with
      | .normalOrder => (s.candidateOrder false).isSome
      | .forward => !s.field.forward.isEmpty
      | _ => false := List.find?_congr fun c hc => by
    obtain rfl | rfl : c = .normalOrder ∨ c = .forward := by simpa using hrot hc
    · rfl
    · rfl
  refine ⟨fun e he => ?_, fun e hu hc he => ?_, fun f more hu hc hf => ?_, fun hu hc => ?_⟩
  · exact congrArg Host.Outcome.next (startField_urgent hr he)
  · refine congrArg Host.Outcome.next ((startField_rotation hr hu).trans ((sendByRotation_picked (hfind.trans hc)).trans ?_))
    exact (sendCandidate_normalOrder (s := moveRotation .field .normalOrder s) he)
  · refine congrArg Host.Outcome.next ((startField_rotation hr hu).trans ((sendByRotation_picked (hfind.trans hc)).trans ?_))
    exact (sendForward_cons (p := .field) (s := moveRotation .field .forward s) hf)
  · exact congrArg Host.Outcome.next ((startField_rotation hr hu).trans (sendByRotation_none (hfind.trans hc)))

/-- Settles O47: the first present candidate of the rotation order. -/
theorem uplinkFrameStart : Obligations.UplinkFrameStart := by
  intro s hr
  dsimp only
  intro hrot
  rw [← rotated_eq, ← rotated_eq, ← rotated_eq]
  have hfind : s.uplink.rotation.find? (present s .uplink) = s.uplink.rotation.find? fun c => match c with
      | .reply => !s.replies.isEmpty
      | .notice => !s.notices.isEmpty
      | .forward => !s.uplink.forward.isEmpty
      | .normalOrder => false := List.find?_congr fun c hc => by
    obtain rfl | rfl | rfl : c = .reply ∨ c = .notice ∨ c = .forward := by simpa using hrot hc
    · rfl
    · rfl
    · rfl
  have hpick : ∀ {c}, s.uplink.rotation.find? (present s .uplink) = some c →
      exec .uplinkFrameStart s = .next (sendCandidate .uplink c (moveRotation .uplink c s)) := fun h =>
    congrArg Host.Outcome.next ((startUplink_running hr).trans (sendByRotation_picked h))
  refine ⟨fun r more hc h => ?_, fun n more hc h => ?_, fun f more hc h => ?_, fun hc => ?_⟩
  · exact (hpick (hfind.trans hc)).trans (congrArg Host.Outcome.next (sendReply_cons h))
  · exact (hpick (hfind.trans hc)).trans (congrArg Host.Outcome.next (sendNotice_cons h))
  · exact (hpick (hfind.trans hc)).trans (congrArg Host.Outcome.next (sendForward_cons (p := .uplink) h))
  · exact congrArg Host.Outcome.next ((startUplink_running hr).trans (sendByRotation_none (hfind.trans hc)))

/-- Settles O20: a frame's bytes do what its own command does, and the rest is the first matching rule's. -/
theorem filterDecidesForwarding : Obligations.FilterDecidesForwarding := by
  refine ⟨fun s dest src seq payload hl => ⟨fun e he => ?_, fun c hc => ?_⟩, fun s src seq code tag a ha e he => ?_,
    fun s src seq payload hr hsrc hl => ?_, fun s p f bytes hs hf => ⟨fun hp hk hd => ?_, fun hpart hint hproc => ?_⟩⟩
  · refine (exec_frameArrival_makeFrame .field dest src e.1 seq hl).trans ?_
    fin_cases he <;> rfl
  · refine (exec_frameArrival_makeFrame .uplink dest src 0x51 seq hl).trans ?_
    fin_cases hc <;> rfl
  · refine (exec_frameArrival_makeFrame .uplink _ src 0x61 seq (by simp; omega)).trans ?_
    fin_cases he <;> rfl
  · refine (exec_frameArrival_makeFrame .uplink _ src 0x61 seq (by omega)).trans (congrArg Host.Outcome.next ?_)
    unfold arriveFrame
    rw [if_pos (isRunning_iff.mpr hr)]
    refine (if_pos (show payload.length ≤ 120 by omega)).trans ?_
    unfold receiveFrame
    exact (if_pos (by simp [Frame.toPart, makeFrame, kindMgmt, show ¬ src = 0#16 from hsrc])).trans (takeMgmt_short hl)
  · subst hp
    exact congrArg Host.Outcome.next ((arriveBytes_parsed .field hs.1 hf).trans (receiveFrame_field_toPart hs.2 hk hd))
  · have hleft : exec (.frameArrival p bytes) s = .next (fileFrame p f s) := congrArg Host.Outcome.next
      ((arriveBytes_parsed p hs.1 hf).trans (receiveFrame_left hs.2 hpart (intercept_none hint) (process_left hproc)))
    simp only [← FilterRule.accepts_iff]
    refine ⟨fun ⟨r, hr, hh, hfirst⟩ => ?_, fun h => ?_⟩
    · exact hleft.trans (congrArg Host.Outcome.next (if_pos (held_of_first hr hh hfirst)))
    · have hforward : fileFrame p f s = forward p f s := if_neg (by simp [not_held h])
      rw [hleft, hforward]
      exact ⟨fun hlt => by rw [forward_joined f hlt], fun hle => by rw [forward_dropped f hle]⟩

end Sys2Proof.Machine
end

section
/-!
PROOFS. The management unit and the resets (spec/10, spec/11): requests that are not executed (R161, R162), SET_MODE, SET_GLOBALS,
POP_FAULT, and the start and the end of a reset. The statements settled stand at the end.
-/

namespace Sys2Proof.Machine

variable {s t : State}

/-! ## Requests taken and answered (R161, R162) -/

/-- A taken request is answered as it is judged. -/
theorem exec_answered {c : Instr} {src : LineAddr} {seq code : Byte} {tag : BitVec 16} {a data : List Byte} {r : ResultCode}
    (hc : exec c s = .next (arriveRequest src seq code tag a s)) (h : s.takes src a)
    (hv : judgeRequest code a s = .answer t r data) : exec c s = .next (t.answered src code tag r data) := by
  rw [hc, arriveRequest_taken h, hv]
  rfl

/-- What a request's arguments are is no matter to its being taken, if they fit. -/
theorem State.takes.args {src : LineAddr} {a b : List Byte} (h : s.takes src a) (hb : b.length ≤ 117) : s.takes src b :=
  ⟨h.1, h.2.1, hb, h.2.2.2⟩

theorem indexOf_eq_none {k n : Nat} (h : k ≤ n) : indexOf k n = none := dif_neg (Nat.not_lt.mpr h)

theorem twoCode_eq_none {α : Type} {zero one : α} {n : Nat} (h : 1 < n) : twoCode zero one n = none :=
  Option.eq_none_iff_forall_not_mem.mpr fun _ hx => absurd (le_of_twoCode_eq_some hx) (Nat.not_le.mpr h)

theorem twoCode_mode (m : Mode) : twoCode Mode.bypass Mode.supervise m.code.toNat = some m := by
  cases m <;> rfl

theorem argNumber_bcdBytes (n : VehicleNumber) : argNumber (bcdBytes n) = some n := bcdNumber_bcdBytes n

theorem argNumber_eq_none {b1 b0 : Byte} (h : BadDigit b1 ∨ BadDigit b0) : argNumber [b1, b0] = none := bcdNumber_eq_none h

theorem parseReason_eq_none {r : Byte} (h : r ∉ [(0x01 : Byte), 0x02, 0x04, 0x08, 0x10, 0x20]) :
    parseReason r.toNat = none := by
  have hne : ∀ k ∈ [(0x01 : Byte), 0x02, 0x04, 0x08, 0x10, 0x20], r.toNat ≠ k.toNat := fun k hk he =>
    h (BitVec.eq_of_toNat_eq he ▸ hk)
  simp only [List.forall_mem_cons] at hne
  obtain ⟨h1, h2, h4, h8, h16, h32, -⟩ := hne
  unfold parseReason
  split
  iterate 6 next => contradiction
  rfl

/-- A code of no request is answered UNKNOWN_REQUEST (R162). -/
theorem judgeRequest_unknown {code : Byte} {a : List Byte} (h : code ∉ requestCodes) :
    judgeRequest code a s = refuse .unknownRequest s := by
  have hne : ∀ k ∈ requestCodes, code.toNat ≠ k.toNat := fun k hk he => h (BitVec.eq_of_toNat_eq he ▸ hk)
  simp only [requestCodes, List.forall_mem_cons] at hne
  obtain ⟨h01, h02, h03, h04, h10, h11, h12, h13, h14, h20, h21, h22, h23, h30, h31, h40, h41, h42, -⟩ := hne
  unfold judgeRequest
  split
  iterate 18 next => contradiction
  rfl

/-! ## Arguments outside their ranges (R166, R167, R169) -/

theorem twoCode_range {α : Type} {zero one x : α} {n : Nat} (h : twoCode zero one n = some x) : 0 ≤ n ∧ n ≤ 1 :=
  ⟨Nat.zero_le n, le_of_twoCode_eq_some h⟩

theorem indexOf_range {k n : Nat} {i : Fin k} (h : indexOf k n = some i) : 0 ≤ n ∧ n ≤ k - 1 :=
  ⟨Nat.zero_le n, Nat.le_sub_one_of_lt (lt_of_indexOf_eq_some h)⟩

theorem parseGlobals_range {a : List Byte} {g : Globals} (h : parseGlobals a = some g) :
    argU16 a 0 ≤ 0xFFFE ∧
    (∀ e ∈ [(argU16 a 2, 5, 1000), (argU8 a 4, 0, 1), (argU8 a 5, 0, 1), (argU8 a 6, 1, 200)],
      e.2.1 ≤ e.1 ∧ e.1 ≤ e.2.2) ∧
    (argU16 a 7 = 0 ∨ 10 ≤ argU16 a 7 ∧ argU16 a 7 ≤ 3600) := by
  unfold parseGlobals at h
  split at h
  next hfield huplink =>
    obtain ⟨⟨hcentre, hack, hsettle, hage⟩, -⟩ := Option.ite_none_right_eq_some.mp h
    refine ⟨hcentre, ?_, hage.imp_right inRange_iff.mp⟩
    simp only [List.forall_mem_cons, List.not_mem_nil, false_implies, implies_true]
    exact ⟨inRange_iff.mp hack, twoCode_range hfield, twoCode_range huplink, inRange_iff.mp hsettle, trivial⟩
  next => cases h

theorem parseLoadSection_range {a : List Byte} {r : SectionIx × SectionParams} (h : parseLoadSection a = some r) :
    ∀ e ∈ [(argU8 a 0, 0, 47), (argU16 a 1, 1, 0xFFFE), (argU8 a 3, 0, 11), (argU16 a 4, 1, 4000), (argU16 a 6, 500, 8000),
      (argU16 a 8, 5, 2000), (argU8 a 10, 1, 255), (argU16 a 11, 100, 8000), (argU16 a 13, 0, 1000), (argU8 a 15, 0, 15),
      (argU32 a 16, 1000, 2000000000), (argU16 a 20, 10, 1000), (argU16 a 22, 0, 1000), (argU16 a 24, 10, 5000),
      (argU16 a 26, 1, 65534), (argU8 a 28, 0, 3), (argU16 a 29, 100, 60000), (argU16 a 31, 1, 600), (argU16 a 33, 20, 2000),
      (argU16 a 35, 50, 5000), (argU16 a 37, 100, 10000)], e.2.1 ≤ e.1 ∧ e.1 ≤ e.2.2 := by
  unfold parseLoadSection at h
  split at h
  next hindex hunit =>
    obtain ⟨hranges, -⟩ := Option.ite_none_right_eq_some.mp h
    simp only [SectionParams.inRanges, Bool.and_eq_true, and_assoc, inRange_iff, sectionParamsAt, argWord_toNat] at hranges
    obtain ⟨h1, h2, hrest⟩ := hranges
    simp only [List.forall_mem_cons, List.not_mem_nil, false_implies, implies_true, and_true, and_assoc]
    exact ⟨Nat.zero_le _, (indexOf_range hindex).2, h1, h2, Nat.zero_le _, (indexOf_range hunit).2, hrest⟩
  next => cases h

theorem parseLoadFrog_range {a : List Byte} {r : FrogIx × FrogParams} (h : parseLoadFrog a = some r) :
    (∀ e ∈ [(argU8 a 0, 0, 63), (argU16 a 1, 1, 0xFFFE), (argU8 a 3, 0, 47), (argU8 a 4, 0, 47), (argU8 a 5, 0, 47),
      (argU8 a 6, 0, 1), (argU8 a 7, 0, 1), (argU16 a 8, 100, 5000), (argU32 a 10, 1000, 120000), (argU16 a 14, 10, 5000),
      (argU16 a 16, 100, 60000), (argU16 a 18, 1, 2000), (argU8 a 20, 0, 15), (argU16 a 21, 100, 30000), (argU8 a 23, 0, 1)],
      e.2.1 ≤ e.1 ∧ e.1 ≤ e.2.2) ∧ argU16 a 14 < argU16 a 16 := by
  unfold parseLoadFrog at h
  split at h
  next hindex hpower hnormal hreverse hdflt hreturns hsense =>
    obtain ⟨hranges, -⟩ := Option.ite_none_right_eq_some.mp h
    simp only [FrogParams.inRanges, Bool.and_eq_true, and_assoc, inRange_iff, frogParamsAt,
      argWord_toNat] at hranges
    obtain ⟨haddr, haddr', hthrow, hthrow', hexit, hexit', hmin, hmin', hmax, hmax', hlt, hrest⟩ := hranges
    obtain ⟨hgap, hgap', hbounces, hbounces', hhold, hhold'⟩ := hrest
    refine ⟨?_, of_decide_eq_true hlt⟩
    simp only [List.forall_mem_cons, List.not_mem_nil, false_implies, implies_true, and_true]
    exact ⟨indexOf_range hindex, ⟨haddr, haddr'⟩, indexOf_range hpower, indexOf_range hnormal, indexOf_range hreverse,
      twoCode_range hdflt, twoCode_range hreturns, ⟨hthrow, hthrow'⟩, ⟨hexit, hexit'⟩, ⟨hmin, hmin'⟩, ⟨hmax, hmax'⟩,
      ⟨hgap, hgap'⟩, ⟨hbounces, hbounces'⟩, ⟨hhold, hhold'⟩, twoCode_range hsense⟩
  next => cases h

/-- No list of fields within their ranges holds one outside its own. -/
theorem not_outside {l : List (Nat × Nat × Nat)} (h : ∀ e ∈ l, e.2.1 ≤ e.1 ∧ e.1 ≤ e.2.2) :
    ¬ ∃ e ∈ l, e.1 < e.2.1 ∨ e.2.2 < e.1 := by
  rintro ⟨e, he, hout⟩
  have := h e he
  omega

theorem eq_none_of_not_some {α : Type} {o : Option α} (h : ∀ x, o ≠ some x) : o = none :=
  Option.eq_none_iff_forall_ne_some.mpr h

/-! ## SET_MODE and SET_GLOBALS (R123, R165, R166, R177) -/

theorem startingState_unit (m : Mode) (now : Time) (s : State) (u : UnitIx) :
    (startingState m now s).unit u = { holder := none, waiting := [], pointer := 0, lastTest := none } := by
  simp [State.unit, startingState, TestUnit.starting]

theorem ageRestarted_running {n : Nat} (h : n ≠ 0) (now : Time) : Vehicle.ageRestarted n now
    = fun v => { v with ageTimer := .running (now + 1000) (n - 1) 1000, clearedAt := none } := by
  funext v
  simp only [Vehicle.ageRestarted, ageTimerFor, if_neg h]
  rfl

/-- The entries' age timers after VEH_AGE goes from `old` to `new` (R123). -/
theorem applyVehAge_eq (old new : Nat) (s : State) : applyVehAge old new s = s.setVehicles
    (if new = 0 then s.vehicles.map fun v => { v with ageTimer := .stopped }
      else if old = 0 then s.vehicles.map fun v => { v with
        ageTimer := .running (s.partTime + 1000) (new - 1) 1000, clearedAt := none }
      else s.vehicles) := by
  unfold applyVehAge
  split
  next => rfl
  next hnew =>
    split
    next => rw [ageRestarted_running hnew]
    next => rfl

/-! ## The start and the end of a reset (R174 to R177) -/

/-- What the start of a reset of a cause leaves, but for the activity; `clears` says whether it clears configuration (R174,
R176). -/
def ResetBegun (s : State) (c : ResetCause) (clears : Bool) (t : State) : Prop :=
  t.cause = c ∧
  t.uplink = { s.uplink with checkErr := false, forwardDrop := false } ∧
  t.field = { s.field with checkErr := false, forwardDrop := false } ∧
  t.noticeLost = false ∧ t.replies = s.replies ∧ t.notices = s.notices ∧ t.mode = s.mode ∧ t.ownAddr = s.ownAddr ∧
  (∀ i x, t.sect i = some x → x.timer = .stopped ∧ x.prot.silence = .stopped) ∧
  (∀ f g, t.frog f = some g → g.throwTimer = .stopped ∧ g.exitTimer = .stopped ∧
    g.capture.settle = .stopped ∧ g.capture.hold = .stopped) ∧
  (∀ v ∈ t.vehicles, v.ageTimer = .stopped) ∧
  (∀ o ∈ t.orders, ∀ q timer, o.state = .sent q timer → timer = .stopped) ∧
  (clears = true → (∀ i, t.sect i = none) ∧ (∀ f, t.frog f = none) ∧
    (∀ r, t.filter.get r =
      { inUse := false, port := .uplink, kind := none, srcLow := 0x0000, srcHigh := 0xFFFF, hold := false }) ∧
    t.globals =
      { centreAddr := 0x0000, ackTimeout := 40, arbField := .fixed, arbUplink := .fixed, settle := 20, vehAge := 0 } ∧
    t.configKept = false) ∧
  (clears = false → t.filter = s.filter ∧ t.globals = s.globals ∧
    t.configKept = (decide (s.activity = .running) || s.configKept) ∧
    (∀ i, (t.sect i).map Sect.params = (s.sect i).map Sect.params) ∧
    (∀ f, (t.frog f).map Frog.params = (s.frog f).map Frog.params))

theorem beginReset_clears {c : ResetCause} (h : c.clearsConfig = true) (s : State) :
    (∀ r, (beginReset c s).filter.get r = FilterRule.powerOn) ∧ (beginReset c s).globals = Globals.powerOn ∧
    (beginReset c s).configKept = false := by
  unfold beginReset
  dsimp only
  rw [if_pos h]
  exact ⟨fun r => by simp [clearConfig], rfl, by simp [clearConfig, h]⟩

theorem beginReset_keeps {c : ResetCause} (h : c.clearsConfig = false) (s : State) :
    (beginReset c s).filter = s.filter ∧ (beginReset c s).globals = s.globals ∧
    (beginReset c s).configKept = (s.isRunning || s.configKept) := by
  unfold beginReset
  dsimp only
  rw [if_neg (by simp [h])]
  exact ⟨rfl, rfl, by simp [h]⟩

/-- What a reset does to the ports, the flags and the queues, whether it clears configuration or not. -/
theorem beginReset_link (c : ResetCause) (s : State) : (beginReset c s).cause = c ∧
    (beginReset c s).uplink = { s.uplink with checkErr := false, forwardDrop := false } ∧
    (beginReset c s).field = { s.field with checkErr := false, forwardDrop := false } ∧
    (beginReset c s).noticeLost = false ∧ (beginReset c s).replies = s.replies ∧ (beginReset c s).notices = s.notices ∧
    (beginReset c s).mode = s.mode ∧ (beginReset c s).ownAddr = s.ownAddr := by
  unfold beginReset
  dsimp only
  split <;> exact ⟨rfl, rfl, rfl, rfl, rfl, rfl, rfl, rfl⟩

theorem Order.halted_timer {e : Order} {q : Byte} {timer : Timer} (h : e.halted.state = .sent q timer) : timer = .stopped := by
  unfold Order.halted at h
  split at h
  next => cases h; rfl
  next hq => exact absurd (hq.symm.trans h) (by simp)

theorem beginReset_begun (c : ResetCause) (s : State) : ResetBegun s c c.clearsConfig (beginReset c s) := by
  obtain ⟨hcause, huplink, hfield, hlost, hreplies, hnotices, hmode, hown⟩ := beginReset_link c s
  refine ⟨hcause, huplink, hfield, hlost, hreplies, hnotices, hmode, hown, fun i x hx => ?_, fun f g hg => ?_, fun v hv => ?_,
    fun o ho q timer hq => ?_, fun hc => ?_, fun hc => ?_⟩
  · rw [beginReset_sect] at hx
    obtain ⟨-, hx⟩ := Option.ite_none_left_eq_some.mp hx
    obtain ⟨y, -, rfl⟩ := Option.map_eq_some_iff.mp hx
    exact ⟨rfl, rfl⟩
  · rw [beginReset_frog] at hg
    obtain ⟨-, hg⟩ := Option.ite_none_left_eq_some.mp hg
    obtain ⟨y, -, rfl⟩ := Option.map_eq_some_iff.mp hg
    exact ⟨rfl, rfl, rfl, rfl⟩
  · rw [beginReset_vehicles] at hv
    obtain ⟨w, -, rfl⟩ := List.mem_map.mp hv
    rfl
  · rw [beginReset_orders] at ho
    obtain ⟨e, -, rfl⟩ := List.mem_map.mp ho
    exact Order.halted_timer hq
  · obtain ⟨hfilter, hglobals, hkept⟩ := beginReset_clears hc s
    exact ⟨fun i => by rw [beginReset_sect, if_pos hc], fun f => by rw [beginReset_frog, if_pos hc], hfilter, hglobals, hkept⟩
  · obtain ⟨hfilter, hglobals, hkept⟩ := beginReset_keeps hc s
    refine ⟨hfilter, hglobals, hkept, fun i => ?_, fun f => ?_⟩
    · rw [beginReset_sect, if_neg (by simp [hc]), Option.map_map]; rfl
    · rw [beginReset_frog, if_neg (by simp [hc]), Option.map_map]; rfl

/-- A RESTART that is executed begins its reset and its hold at once, and is not answered (R165, R174). -/
theorem exec_restart {src : LineAddr} (h : s.takes src []) (seq : Byte) (tag : BitVec 16) :
    exec (.restart src seq tag []) s = .next (beginHold (beginReset .restart s)) :=
  congrArg Host.Outcome.next (arriveRequest_taken h seq 0x03 tag)

theorem endHold_done {straps : Byte} {autorun : Bool} (h : s.activity = .holding 0) : endHold straps autorun s =
    raise (.start s.cause (startMode autorun s.configKept)) (startingState (startMode autorun s.configKept) 0 { s with
      activity := .running, straps, autorun, ownAddr := 0x7F00 + straps.zeroExtend 16 }) := by
  unfold endHold
  rw [h]
  rfl

theorem endHold_early {straps : Byte} {autorun : Bool} (h : s.activity ≠ .holding 0) : endHold straps autorun s = s := by
  unfold endHold
  split
  next h0 => exact absurd h0 h
  next => rfl

theorem endReset_resetting (h : s.activity = .resetting) : endReset s = { s with
    activity := .holding s.cause.holdLength, resetN := true, supplyOk := true } := by
  unfold endReset
  rw [h]
  rfl

theorem endReset_outside (h : s.activity ≠ .resetting) : endReset s = s := by
  unfold endReset
  split
  next h0 => exact absurd h0 h
  next => rfl

theorem holdLength_eq (c : ResetCause) : c.holdLength = if c = .powerOn ∨ c = .supplyDip then 100 else 5 := by
  cases c <;> rfl

theorem startMode_eq (autorun kept : Bool) :
    startMode autorun kept = if autorun = true ∧ kept = true then .supervise else .bypass := by
  simp only [startMode, Bool.and_eq_true]

/-- A notice raised over an empty queue is lost only to a CENTRE_ADDR of 0x0000 (R157, R158). -/
theorem raise_first (b : NoticeBody) (h : s.notices = []) : raise b s = s.setNotices
    (if s.globals.centreAddr = 0x0000 then [] else [{ dest := s.globals.centreAddr, body := b }]) := by
  split
  next hcentre => rw [raise_uncentred b hcentre, ← h]; rfl
  next hcentre => rw [raise_queued b hcentre (by simp [h]), h]; rfl

/-- The own address of a set of straps (R175). -/
theorem strapped_toNat (straps : Byte) : ((0x7F00 + straps.zeroExtend 16 : BitVec 16)).toNat = 0x7F00 + straps.toNat := by
  have := straps.isLt
  simp
  omega

/-! ## The statements settled -/

/-- Settles O48: admission comes first, then the length of the arguments, then their ranges. -/
theorem requestsThatAreNotExecuted : Obligations.RequestsThatAreNotExecuted := by
  refine ⟨fun s src seq code tag a hr hsrc ha => ⟨fun hl hc => ?_, fun hl => ?_, fun e he => ?_⟩, fun s src seq tag h => ?_⟩
  · exact exec_answered rfl ⟨hr, hsrc, ha, hl⟩ (judgeRequest_unknown hc)
  · exact congrArg Host.Outcome.next (arriveRequest_full hr hsrc ha hl seq code tag)
  · have hfull : ∀ {c : Instr} (code : Byte), exec c s = .next (arriveRequest src seq code tag a s) →
        4 ≤ s.replies.length → exec c s = .next s := fun code hc hl =>
      hc.trans (congrArg Host.Outcome.next (arriveRequest_full hr hsrc ha hl seq code tag))
    have hshort : ∀ {c : Instr} {n : Nat} (code : Byte), exec c s = .next (arriveRequest src seq code tag a s) →
        (a.length ≠ n → judgeRequest code a s = refuse .range s) → s.replies.length < 4 → a.length ≠ n →
        exec c s = .next (s.answered src code tag .range []) := fun code hc hj hl hn =>
      exec_answered hc ⟨hr, hsrc, ha, hl⟩ (hj hn)
    fin_cases he <;> exact ⟨hfull _ rfl, hshort _ rfl fun hn => if_pos hn⟩
  · have hargs : ∀ {b : List Byte}, b.length ≤ 117 → s.takes src b := fun hb => h.args hb
    refine ⟨fun b => ⟨fun hb => ?_, fun hb => ?_, fun hb => ?_⟩, fun b1 b0 hb => ?_, fun b r hb => ?_,
      fun a => ⟨fun ha hout => ?_, fun ha hout => ?_, fun ha hout => ?_⟩⟩
    · have hix : indexOf 48 (argU8 [b] 0) = none := indexOf_eq_none hb
      exact ⟨exec_answered rfl (hargs (by simp)) (by simp [judgeRequest, requestUnloadSection, hix, refuse]),
        exec_answered rfl (hargs (by simp)) (by simp [judgeRequest, requestReadSection, hix, refuse])⟩
    · have hix : indexOf 64 (argU8 [b] 0) = none := indexOf_eq_none hb
      exact ⟨exec_answered rfl (hargs (by simp)) (by simp [judgeRequest, requestUnloadFrog, hix, refuse]),
        exec_answered rfl (hargs (by simp)) (by simp [judgeRequest, requestReadFrog, hix, refuse]),
        exec_answered rfl (hargs (by simp)) (by simp [judgeRequest, requestBlockFrog, hix, refuse]),
        exec_answered rfl (hargs (by simp)) (by simp [judgeRequest, requestFlushFrog, hix, refuse])⟩
    · have hlarge : 31 < argU8 [b] 0 := hb
      exact exec_answered rfl (hargs (by simp)) (by simp [judgeRequest, requestReadOrders, hlarge, refuse])
    · have hn : argNumber [b1, b0] = none := argNumber_eq_none (by simpa [BadDigit] using hb)
      exact ⟨exec_answered rfl (hargs (by simp)) (by simp [judgeRequest, requestReadVehicle, hn, refuse]),
        exec_answered rfl (hargs (by simp)) (by simp [judgeRequest, requestPopFault, hn, refuse]),
        exec_answered rfl (hargs (by simp)) (by simp [judgeRequest, requestSignOff, hn, refuse])⟩
    · refine exec_answered rfl (hargs (by simp)) (show requestClearBlock [b, r] s = refuse .range s from ?_)
      obtain hb | hr := hb
      · have hix : indexOf 64 (argU8 [b, r] 0) = none := indexOf_eq_none hb
        simp [requestClearBlock, hix]
      · have hreason : parseReason (argU8 [b, r] 1) = none := parseReason_eq_none hr
        simp [requestClearBlock, hreason]
    · have hnone : parseGlobals a = none := eq_none_of_not_some fun g hg => by
        obtain ⟨hcentre, hfields, hage⟩ := parseGlobals_range hg
        obtain hout | hout | ⟨h0, hout⟩ := hout
        · exact absurd hcentre (Nat.not_le.mpr hout)
        · exact not_outside hfields hout
        · obtain hzero | ⟨hlow, hhigh⟩ := hage
          · exact h0 hzero
          · exact hout.elim (Nat.not_lt.mpr hlow) (Nat.not_lt.mpr hhigh)
      exact exec_answered rfl (hargs (by omega)) (show requestSetGlobals a s = _ by simp [requestSetGlobals, ha, hnone, refuse])
    · have hnone : parseLoadSection a = none := eq_none_of_not_some fun r hr => not_outside (parseLoadSection_range hr) hout
      exact exec_answered rfl (hargs (by omega)) (show requestLoadSection a s = _ by simp [requestLoadSection, ha, hnone, refuse])
    · have hnone : parseLoadFrog a = none := eq_none_of_not_some fun r hr => by
        obtain ⟨hfields, hlt⟩ := parseLoadFrog_range hr
        exact hout.elim (not_outside hfields) (Nat.not_le.mpr hlt)
      exact exec_answered rfl (hargs (by omega)) (show requestLoadFrog a s = _ by simp [requestLoadFrog, ha, hnone, refuse])

/-- Settles O50: the mode in force, a value that is no mode, and a change, which starts every block afresh. -/
theorem setMode : Obligations.SetMode := by
  intro s src seq b tag m h
  refine ⟨fun hb => ?_, fun hb => ?_, fun hb hm => ?_⟩
  · have hcode : twoCode Mode.bypass Mode.supervise (argU8 [b] 0) = none := twoCode_eq_none hb
    exact exec_answered rfl h (show requestSetMode [b] s = _ by simp [requestSetMode, hcode, refuse])
  · have hcode : twoCode Mode.bypass Mode.supervise (argU8 [b] 0) = some s.mode := hb ▸ twoCode_mode s.mode
    exact exec_answered rfl h (show requestSetMode [b] s = _ by simp [requestSetMode, hcode, done])
  · have hcode : twoCode Mode.bypass Mode.supervise (argU8 [b] 0) = some m := hb ▸ twoCode_mode m
    refine ⟨_, exec_answered (t := changeMode m s) rfl h (show requestSetMode [b] s = _ by
      simp [requestSetMode, hcode, hm, done]), rfl, rfl, rfl, rfl, rfl, rfl, rfl, fun u => startingState_unit m s.partTime s u,
      fun i hi => ?_, fun f hf => ?_, fun i x hx => ?_, fun f g hg => ?_, rfl, rfl, rfl, rfl, rfl, rfl, rfl⟩
    · exact (startingState_sect m s.partTime s i).trans (by rw [hi]; rfl)
    · exact (startingState_frog m s.partTime s f).trans (by rw [hf]; rfl)
    · refine (startingState_sect m s.partTime s i).trans ?_
      rw [hx]
      cases m <;> rfl
    · exact (startingState_frog m s.partTime s f).trans (by rw [hg]; rfl)

/-- Settles O51: the six values are read back (R166), and each write follows its own condition. -/
theorem setGlobals : Obligations.SetGlobals := by
  intro s src seq tag g h hcentre hack hack' hsettle hsettle' hage
  have hparse : parseGlobals g.bytes = some g := parseGlobals_bytes hcentre ⟨hack, hack'⟩ ⟨hsettle, hsettle'⟩ hage
  have hjudge : judgeRequest 0x04 g.bytes s = .answer (writeGlobals g s) .ok [] := by
    change requestSetGlobals g.bytes s = _
    rw [requestSetGlobals, if_neg (fun hne => hne rfl), hparse]
    rfl
  refine (exec_answered rfl h hjudge).trans (congrArg (fun t => Host.Outcome.next (State.answered t src 0x04 tag .ok [])) ?_)
  unfold writeGlobals
  rw [applyVehAge_eq]
  dsimp only
  by_cases hfield : g.arbField = s.globals.arbField <;> by_cases huplink : g.arbUplink = s.globals.arbUplink <;>
    simp only [hfield, huplink, if_true, if_false] <;> rfl

/-- Settles O56: a number not held, an empty list, and the oldest record. -/
theorem popFault : Obligations.PopFault := by
  intro s src seq tag n h
  have hn := argNumber_bcdBytes n
  have hlen : (bcdBytes n).length = 2 := rfl
  refine ⟨fun hv => ?_, fun v hv hl => ?_, fun v r rest hv hl => ?_⟩
  · exact exec_answered rfl h (show requestPopFault (bcdBytes n) s = _ by simp [requestPopFault, hlen, hn, hv, refuse])
  · exact exec_answered rfl h (show requestPopFault (bcdBytes n) s = _ by simp [requestPopFault, hlen, hn, hv, hl, refuse])
  · have hjudge : judgeRequest 0x30 (bcdBytes n) s =
        .answer (s.editVehicle n fun w => { w with faults := rest, listLost := false }) .ok
          (r.bytes ++ [flagByte v.listLost]) := show requestPopFault (bcdBytes n) s = _ by
      simp [requestPopFault, hlen, hn, hv, hl]
    exact exec_answered rfl h hjudge

/-- Settles O59: a reset begins the same for every cause but for configuration, and a RESTART's hold begins at once. -/
theorem resetBegins : Obligations.ResetBegins := by
  intro s src seq tag e he htakes
  fin_cases he
  · exact ⟨_, rfl, beginReset_activity .powerOn s, beginReset_begun .powerOn s⟩
  · exact ⟨_, rfl, beginReset_activity .supplyDip s, beginReset_begun .supplyDip s⟩
  · exact ⟨_, rfl, beginReset_activity .resetPin s, beginReset_begun .resetPin s⟩
  · obtain ⟨hcause, -⟩ := beginReset_link .restart s
    exact ⟨_, exec_restart (htakes rfl) seq tag, by rw [beginHold, hcause]; rfl, beginReset_begun .restart s⟩

/-- Settles O60: the hold's length, and the start of every block at its end. -/
theorem resetEnds : Obligations.ResetEnds := by
  intro s straps autorun
  refine ⟨fun h => ?_, fun h => congrArg Host.Outcome.next (endReset_outside h),
    fun h => congrArg Host.Outcome.next (endHold_early h), fun h => ?_⟩
  · rw [← holdLength_eq]
    exact congrArg Host.Outcome.next (endReset_resetting h)
  · rw [← startMode_eq]
    refine ⟨_, congrArg Host.Outcome.next ((endHold_done h).trans (raise_first _ rfl)), rfl, rfl, strapped_toNat straps, rfl, rfl,
      rfl, rfl, rfl, rfl, rfl, rfl, rfl, rfl,
      fun u => startingState_unit (startMode autorun s.configKept) 0 { s with
        activity := .running, straps, autorun, ownAddr := 0x7F00 + straps.zeroExtend 16 } u, fun i => startingState_sect _ 0 _ i,
      fun f => startingState_frog (startMode autorun s.configKept) 0 _ f, rfl, rfl, rfl⟩

end Sys2Proof.Machine
end

section
/-!
PROOFS. Loads and unloads (R167 to R169), SIGN_OFF_VEHICLE and the requests on a frog (R86 to R88, R104, R173). First the work on
a frog's block set and head, said once as equations. The statements settled stand at the end.
-/

namespace Sys2Proof.Machine

variable {s t : State}

/-! ## The block set and the head of a frog (R86 to R88, R93) -/

theorem headIn_eq (ph : RequestPhase) (q : List Request) : headIn ph q = q.head?.any fun r => decide (r.phase = ph) := by
  cases q <;> rfl

/-- A head that is not WAITING is not checked (R93). -/
theorem checkHead_notWaiting {f : FrogIx} {g : Frog} (hg : s.frog f = some g) (hq : headIn .waiting g.queue = false) :
    checkHead f s = (s, false) := by
  unfold checkHead
  rw [hg]
  dsimp only
  cases h : g.queue with
  | nil => rfl
  | cons r rest =>
    have hr : r.phase ≠ .waiting := by simpa [headIn, h] using hq
    unfold checkQueue
    rw [hg]
    exact if_pos hr

theorem put_false_eq_iff (b : BlockSet) (r : BlockReason) : b.put r false = b ↔ b.has r = false :=
  ⟨fun h => by rw [← h, has_put], fun h => by rw [← h, put_has]⟩

/-- A reason held leaves the block set, and the head is checked (R86). -/
theorem removeBlock_held {f : FrogIx} {g : Frog} {r : BlockReason} (hg : s.frog f = some g) (h : g.blocks.has r = true) :
    removeBlock f r s = checkHead f (raise (.frogBlock f r false (g.blocks.put r false))
      (s.putFrog f (some { g with blocks := g.blocks.put r false }))) := by
  unfold removeBlock
  rw [hg]
  exact if_pos h

theorem removeBlock_absent {f : FrogIx} {g : Frog} {r : BlockReason} (hg : s.frog f = some g) (h : g.blocks.has r = false) :
    removeBlock f r s = (s, false) := by
  unfold removeBlock
  rw [hg]
  exact if_neg (by simp [h])

theorem noteFrog_removeBlock {f : FrogIx} {g : Frog} (r : BlockReason) (hg : s.frog f = some g) :
    noteFrog f (removeBlock f r s) = if g.blocks.has r then
      headChecked f (raise (.frogBlock f r false (g.blocks.put r false))
        (s.putFrog f (some { g with blocks := g.blocks.put r false }))) else s := by
  split
  next h => rw [removeBlock_held hg h]; rfl
  next h => rw [removeBlock_absent hg (by simpa using h)]; rfl

theorem noteFrog_addBlock {f : FrogIx} {g : Frog} (r : BlockReason) (hg : s.frog f = some g) :
    noteFrog f (addBlock f r s) = blockGained f g r s := by
  rw [addBlock_eq r hg]
  rfl

/-- CLEAR_BLOCK of a reason but DEWIRE (R88). -/
theorem clearReason_other {f : FrogIx} {g : Frog} {r : BlockReason} (hr : r ≠ .dewire) (hg : s.frog f = some g) :
    clearReason f r s = if g.blocks.put r false = g.blocks then s else
      headChecked f (raise (.frogBlock f r false (g.blocks.put r false))
        (s.putFrog f (some { g with blocks := g.blocks.put r false }))) := by
  rw [clearReason, if_neg hr, noteFrog_removeBlock r hg]
  simp only [put_false_eq_iff]
  cases g.blocks.has r <;> rfl

/-- CLEAR_BLOCK of DEWIRE (R87, R88, R122). -/
theorem clearReason_dewire {f : FrogIx} {g : Frog} (hg : s.frog f = some g) :
    clearReason f .dewire s = if g.blocks.dewire then
      headChecked f (raise (.frogBlock f .dewire false { g.blocks with dewire := false })
        ((dropDewireAt f s).putFrog f (some { g with untracked := false, blocks := { g.blocks with dewire := false } })))
      else (dropDewireAt f s).putFrog f (some { g with untracked := false }) := by
  have hcleared : dropDewireAt f (s.editFrog f fun g => { g with untracked := false })
      = (dropDewireAt f s).putFrog f (some { g with untracked := false }) := by
    rw [State.editFrog, hg]
    rfl
  rw [clearReason, if_pos rfl, hcleared, noteFrog_removeBlock .dewire (State.frog_putFrog_same ..), putFrog_putFrog]
  rfl

/-- The removal of a reason where no head is WAITING (R86, R93). -/
theorem removeBlock_notWaiting {f : FrogIx} {g : Frog} (r : BlockReason) (hg : s.frog f = some g)
    (hq : headIn .waiting g.queue = false) : removeBlock f r s = (if g.blocks.has r then
      raise (.frogBlock f r false (g.blocks.put r false)) (s.putFrog f (some { g with blocks := g.blocks.put r false }))
      else s, false) := by
  split
  next h => rw [removeBlock_held hg h, checkHead_notWaiting (g := { g with blocks := g.blocks.put r false }) (by simp) hq]
  next h => rw [removeBlock_absent hg (by simpa using h)]

theorem headIn_filter_waiting (q : List Request) :
    headIn .waiting (q.filter fun r => decide (r.phase ≠ .waiting)) = false := by
  rw [headIn_eq]
  cases h : (q.filter fun r => decide (r.phase ≠ .waiting)) with
  | nil => rfl
  | cons r rest =>
    have hr : r ∈ q.filter fun r => decide (r.phase ≠ .waiting) := h ▸ List.mem_cons_self
    simpa using (List.mem_filter.mp hr).2

/-- FLUSH_FROG (R104). -/
theorem flushFrog_eq {f : FrogIx} {g : Frog} (hg : s.frog f = some g) :
    let g' := { g with
      queue := g.queue.filter fun r => decide (r.phase ≠ .waiting), wait := if headIn .waiting g.queue then none else g.wait }
    let t := if g.blocks.overflow then raise (.frogBlock f .overflow false { g.blocks with overflow := false })
        (s.putFrog f (some { g' with blocks := { g.blocks with overflow := false } }))
      else s.putFrog f (some g')
    flushFrog f s = if headIn .waiting g.queue then raiseFrog f t else t := by
  intro g' t
  have hwork : removeBlock f .overflow (s.putFrog f (some g')) = (t, false) := by
    rw [removeBlock_notWaiting (g := g') .overflow (State.frog_putFrog_same ..) (headIn_filter_waiting g.queue), putFrog_putFrog]
    rfl
  unfold flushFrog
  rw [hg]
  dsimp only
  rw [FrogWork.followedBy, hwork, Bool.or_false]
  rfl

theorem requestClearBlock_ok {f : FrogIx} {g : Frog} {b : Byte} {r : BlockReason} (hg : s.frog f = some g)
    (hr : parseReason (argU8 [u8 f.val, b] 1) = some r) :
    requestClearBlock [u8 f.val, b] s = done (clearReason f r s) := by
  have hix : indexOf 64 (argU8 [u8 f.val, b] 0) = some f := indexOf_u8 f (by omega)
  unfold requestClearBlock
  rw [if_neg (by simp), hix, hr]
  dsimp only
  rw [hg]

/-! ## Loads and unloads of a section (R2, R3, R29, R122, R167, R168) -/

theorem frogAt_isSome {a : LineAddr} : (s.frogAt a).isSome = true ↔ ∃ f g, s.frog f = some g ∧ g.params.ctrlAddr = a := by
  rw [Option.isSome_iff_ne_none, ne_eq, frogAt_eq_none]
  push Not
  rfl

/-- FEEDER_ADDR clashes with the own address, another section or a frog (R167). -/
theorem feederClashes_iff {i : SectionIx} {a : LineAddr} : feederClashes i a s = true ↔ a = s.ownAddr ∨
    (∃ j x, j ≠ i ∧ s.sect j = some x ∧ x.params.feederAddr = a) ∨ ∃ f g, s.frog f = some g ∧ g.params.ctrlAddr = a := by
  have hany : ((List.finRange 48).any fun j => decide (j ≠ i) && (match s.sect j with
      | some x => decide (x.params.feederAddr = a)
      | none => false)) = true ↔ ∃ j x, j ≠ i ∧ s.sect j = some x ∧ x.params.feederAddr = a := by
    rw [List.any_eq_true]
    constructor
    · rintro ⟨j, -, hj⟩
      cases hx : s.sect j with
      | none => simp [hx] at hj
      | some x => exact ⟨j, x, by simpa [hx] using hj⟩
    · rintro ⟨j, x, hj, hx, ha⟩
      exact ⟨j, List.mem_finRange j, by simp [hj, hx, ha]⟩
  rw [feederClashes, Bool.or_eq_true, Bool.or_eq_true, decide_eq_true_eq, frogAt_isSome, or_assoc]
  exact or_congr_right (or_congr_left hany)

theorem namedByFrog_iff {i : SectionIx} : namedByFrog i s = true ↔ ∃ f g, s.frog f = some g ∧ g.params.names i = true := by
  unfold namedByFrog
  rw [List.any_eq_true]
  constructor
  · rintro ⟨f, -, hf⟩
    split at hf
    next g hg => exact ⟨f, g, hg, hf⟩
    next => cases hf
  · rintro ⟨f, g, hg, hn⟩
    exact ⟨f, List.mem_finRange f, by rw [hg]; exact hn⟩

theorem resting_iff (st : SectionState) : st.resting = true ↔ st = .unknown ∨ st = .isolated ∨ st = .lockedOut := by
  cases st <;> simp [SectionState.resting]

theorem Sect.reloaded_eq (p : SectionParams) (x : Sect) : x.reloaded p = { x with
    params := p, attempts := min x.attempts p.recloseMax
    lastReport := if p.feederAddr = x.params.feederAddr then x.lastReport else none
    prot := if p.feederAddr = x.params.feederAddr then x.prot else { x.prot with synced := false, window := none } } := by
  unfold Sect.reloaded
  dsimp only
  split <;> rfl

theorem SectionParams.bytes_length (p : SectionParams) : p.bytes.length = 38 := by rw [SectionParams.bytes_eq]; rfl

section
variable {i : SectionIx} {p : SectionParams} (hp : p.inRanges = true)
include hp

theorem requestLoadSection_clash (hc : feederClashes i p.feederAddr s = true) :
    requestLoadSection (u8 i.val :: p.bytes) s = refuse .range s := by
  unfold requestLoadSection
  rw [if_neg (by simp [SectionParams.bytes_length]), parseLoadSection_bytes i hp]
  exact if_pos hc

theorem requestLoadSection_new (hc : feederClashes i p.feederAddr s = false) (hx : s.sect i = none) :
    requestLoadSection (u8 i.val :: p.bytes) s
      = done (raiseSection i (s.putSect i (some (Sect.starting s.mode s.partTime p)))) := by
  unfold requestLoadSection
  rw [if_neg (by simp [SectionParams.bytes_length]), parseLoadSection_bytes i hp]
  dsimp only
  rw [if_neg (by simp [hc]), hx]

theorem requestLoadSection_held {x : Sect} (hc : feederClashes i p.feederAddr s = false) (hx : s.sect i = some x) :
    requestLoadSection (u8 i.val :: p.bytes) s = if x.state.resting ||
        (decide (p.feederAddr = x.params.feederAddr) && decide (p.testUnit = x.params.testUnit)) then
      done (s.putSect i (some (x.reloaded p))) else refuse .state s := by
  unfold requestLoadSection
  rw [if_neg (by simp [SectionParams.bytes_length]), parseLoadSection_bytes i hp]
  dsimp only
  rw [if_neg (by simp [hc]), hx]

end

theorem requestUnloadSection_none {i : SectionIx} (hx : s.sect i = none) : requestUnloadSection [u8 i.val] s = done s := by
  have hix : indexOf 48 (argU8 [u8 i.val] 0) = some i := indexOf_u8 i (by omega)
  unfold requestUnloadSection
  rw [if_neg (by simp), hix]
  dsimp only
  rw [hx]

theorem requestUnloadSection_held {i : SectionIx} {x : Sect} (hx : s.sect i = some x) : requestUnloadSection [u8 i.val] s
    = if x.state.resting && !namedByFrog i s then done (unloadSect i s) else refuse .state s := by
  have hix : indexOf 48 (argU8 [u8 i.val] 0) = some i := indexOf_u8 i (by omega)
  unfold requestUnloadSection
  rw [if_neg (by simp), hix]
  dsimp only
  rw [hx]

/-! ## Loads and unloads of a frog (R65, R66, R83, R84, R169) -/

theorem Frog.resting_iff (g : Frog) : g.resting = true ↔ g.queue = [] ∧ ∀ r, g.position ≠ .moving r := by
  unfold Frog.resting
  cases g.position <;> simp [Position.isMoving]

theorem Frog.reloaded_eq (p : FrogParams) (g : Frog) : g.reloaded p = { g with
    params := p, capture := if p.ctrlAddr = g.params.ctrlAddr then g.capture else Capture.starting } := by
  unfold Frog.reloaded
  split <;> rfl

theorem FrogParams.bytes_length (p : FrogParams) : p.bytes.length = 23 := by rw [FrogParams.bytes_eq]; rfl

section
variable {f : FrogIx} {p : FrogParams} (hp : p.inRanges = true)
include hp

theorem requestLoadFrog_invalid (hr : frogReferencesOk f p s = false) :
    requestLoadFrog (u8 f.val :: p.bytes) s = refuse .range s := by
  unfold requestLoadFrog
  rw [if_neg (by simp [FrogParams.bytes_length]), parseLoadFrog_bytes f hp]
  exact if_pos (by simp [hr])

theorem requestLoadFrog_new (hr : frogReferencesOk f p s = true) (hg : s.frog f = none) :
    requestLoadFrog (u8 f.val :: p.bytes) s = done (s.putFrog f (some (Frog.starting p))) := by
  unfold requestLoadFrog
  rw [if_neg (by simp [FrogParams.bytes_length]), parseLoadFrog_bytes f hp]
  dsimp only
  rw [if_neg (by simp [hr]), hg]

theorem requestLoadFrog_held {g : Frog} (hr : frogReferencesOk f p s = true) (hg : s.frog f = some g) :
    requestLoadFrog (u8 f.val :: p.bytes) s
      = if g.resting then done (s.putFrog f (some (g.reloaded p))) else refuse .state s := by
  unfold requestLoadFrog
  rw [if_neg (by simp [FrogParams.bytes_length]), parseLoadFrog_bytes f hp]
  dsimp only
  rw [if_neg (by simp [hr]), hg]

end

theorem requestUnloadFrog_none {f : FrogIx} (hg : s.frog f = none) : requestUnloadFrog [u8 f.val] s = refuse .notFound s := by
  have hix : indexOf 64 (argU8 [u8 f.val] 0) = some f := indexOf_u8 f (by omega)
  unfold requestUnloadFrog
  rw [if_neg (by simp), hix]
  dsimp only
  rw [hg]

theorem requestUnloadFrog_held {f : FrogIx} {g : Frog} (hg : s.frog f = some g) : requestUnloadFrog [u8 f.val] s
    = if g.resting then done (forgetFrog f (s.putFrog f none)) else refuse .state s := by
  have hix : indexOf 64 (argU8 [u8 f.val] 0) = some f := indexOf_u8 f (by omega)
  unfold requestUnloadFrog
  rw [if_neg (by simp), hix]
  dsimp only
  rw [hg]

/-! ## Signing off a vehicle (R87, R116, R121) -/

theorem signOff_held {n : VehicleNumber} {v : Vehicle} (hv : s.vehicle n = some v) :
    signOff n s = dewireReviewed v.dewire (s.setVehicles (s.vehicles.filter fun w => decide (w.number ≠ n))) := by
  unfold signOff
  rw [hv]
  exact reviewLeft_eq v.dewire

theorem dewireReviewed_nowhere {d : Option (Option FrogIx)} (h : d = none ∨ d = some none) : dewireReviewed d s = s := by
  obtain rfl | rfl := h <;> rfl

/-! ## The statements settled -/

/-- Settles O57: the entry leaves, and DEWIRE is reviewed at its frog. -/
theorem signOffVehicle : Obligations.SignOffVehicle := by
  intro s src seq tag n h
  have hn := argNumber_bcdBytes n
  have hlen : (bcdBytes n).length = 2 := rfl
  have hheld : ∀ v, s.vehicle n = some v → exec (.signOffVehicle src seq tag (bcdBytes n)) s = .next (State.answered
      (dewireReviewed v.dewire (s.setVehicles (s.vehicles.filter fun w => decide (w.number ≠ n)))) src 0x31 tag .ok []) :=
    fun v hv => exec_answered rfl h (show requestSignOff (bcdBytes n) s = _ by
      simp [requestSignOff, hlen, hn, hv, done, signOff_held hv])
  refine ⟨fun hv => ?_, fun v hv hd => ?_, hheld⟩
  · exact exec_answered rfl h (show requestSignOff (bcdBytes n) s = _ by simp [requestSignOff, hlen, hn, hv, refuse])
  · rw [hheld v hv, dewireReviewed_nowhere hd]
    rfl

/-- Settles O58: a frog that is not configured, and each of the three requests on one that is. -/
theorem frogRequests : Obligations.FrogRequests := by
  intro s src seq tag f h
  have hix : ∀ l : List Byte, indexOf 64 (argU8 (u8 f.val :: l) 0) = some f := fun l => indexOf_u8 f (by omega)
  refine ⟨fun hf => ⟨?_, fun r hr => ?_, ?_⟩, fun g hg => ⟨?_, fun e he => ?_, ?_, ?_⟩⟩
  · exact exec_answered rfl (h.args (by simp)) (show requestBlockFrog [u8 f.val] s = _ by
      simp [requestBlockFrog, hix, hf, refuse])
  · obtain ⟨reason, hreason⟩ : ∃ reason, parseReason (argU8 [u8 f.val, r] 1) = some reason := by
      fin_cases hr <;> exact ⟨_, rfl⟩
    exact exec_answered rfl (h.args (by simp)) (show requestClearBlock [u8 f.val, r] s = _ by
      simp [requestClearBlock, hix, hreason, hf, refuse])
  · exact exec_answered rfl (h.args (by simp)) (show requestFlushFrog [u8 f.val] s = _ by
      simp [requestFlushFrog, hix, hf, refuse])
  · exact exec_answered rfl (h.args (by simp)) (show requestBlockFrog [u8 f.val] s = _ by
      simp [requestBlockFrog, hix, hg, done, noteFrog_addBlock .dispatch hg])
  · have hclear : ∀ {b : Byte} (r : BlockReason), parseReason (argU8 [u8 f.val, b] 1) = some r → r ≠ .dewire →
        exec (.clearBlock src seq tag [u8 f.val, b]) s = .next (State.answered
          (if g.blocks.put r false = g.blocks then s else headChecked f (raise (.frogBlock f r false (g.blocks.put r false))
            (s.putFrog f (some { g with blocks := g.blocks.put r false })))) src 0x41 tag .ok []) := fun r hr hne =>
      exec_answered rfl (h.args (by simp)) ((requestClearBlock_ok hg hr).trans (congrArg done (clearReason_other hne hg)))
    fin_cases he
    · exact hclear .stall rfl (by decide)
    · exact hclear .position rfl (by decide)
    · exact hclear .overflow rfl (by decide)
    · exact hclear .exit rfl (by decide)
    · exact hclear .dispatch rfl (by decide)
  · exact exec_answered rfl (h.args (by simp)) ((requestClearBlock_ok hg rfl).trans (congrArg done (clearReason_dewire hg)))
  · simp only [← headIn_eq]
    exact exec_answered rfl (h.args (by simp)) (show requestFlushFrog [u8 f.val] s = _ by
      simp [requestFlushFrog, hix, hg, done, flushFrog_eq hg])

/-- Settles O52: the clash, a new section, a reload, and an unload, in the order of the checks. -/
theorem sectionLoads : Obligations.SectionLoads := by
  intro s src seq tag i p h hp clash load unload
  have hload : ∀ {t r}, requestLoadSection (u8 i.val :: p.bytes) s = .answer t r [] →
      load = .next (t.answered src 0x10 tag r []) := fun hj => exec_answered rfl h hj
  have hunload : ∀ {t r}, requestUnloadSection [u8 i.val] s = .answer t r [] →
      unload = .next (t.answered src 0x11 tag r []) := fun hj => exec_answered rfl (h.args (by simp)) hj
  have hclear : ¬ clash → feederClashes i p.feederAddr s = false := fun hc =>
    Bool.not_eq_true _ ▸ fun hf => hc (feederClashes_iff.mp hf)
  refine ⟨fun hc => hload (requestLoadSection_clash hp (feederClashes_iff.mpr hc)), fun hc hx => ?_,
    fun x hc hx => ⟨fun hr => ?_, fun hr hp' => ?_⟩, fun hx => hunload (requestUnloadSection_none hx),
    fun x hx => ⟨fun hr => ?_, fun hr hn => ?_⟩⟩
  · refine (hload (requestLoadSection_new hp (hclear hc) hx)).trans ?_
    rw [raiseSection_putSect, ← raise_putSect]
    rfl
  · rw [← Sect.reloaded_eq]
    refine hload ((requestLoadSection_held hp (hclear hc) hx).trans (if_pos ?_))
    simpa [resting_iff, or_assoc] using hr
  · refine hload ((requestLoadSection_held hp (hclear hc) hx).trans (if_neg ?_))
    simp only [Bool.or_eq_true, resting_iff, Bool.and_eq_true, decide_eq_true_eq]
    exact not_or.mpr ⟨hr, hp'⟩
  · refine hunload ((requestUnloadSection_held hx).trans (if_neg ?_))
    simp only [Bool.and_eq_true, resting_iff, Bool.not_eq_true', ← Bool.not_eq_true, namedByFrog_iff]
    exact fun ⟨hrest, hfree⟩ => hr.elim (· hrest) hfree
  · have hfree : ¬ namedByFrog i s = true := fun hnamed => by
      obtain ⟨f, g, hg, hgn⟩ := namedByFrog_iff.mp hnamed
      simp [hn f g hg] at hgn
    have hjudge : requestUnloadSection [u8 i.val] s = done (unloadSect i s) :=
      (requestUnloadSection_held hx).trans (if_pos (by simp [(resting_iff x.state).mpr hr, hfree]))
    exact ⟨_, _, _, _, _, rfl, hunload hjudge⟩

/-- Settles O53: the references, a new frog, a reload, and an unload, in the order of the checks. -/
theorem frogLoads : Obligations.FrogLoads := by
  intro s src seq tag f p h hp valid load unload
  have hload : ∀ {t r}, requestLoadFrog (u8 f.val :: p.bytes) s = .answer t r [] →
      load = .next (t.answered src 0x12 tag r []) := fun hj => exec_answered rfl h hj
  have hunload : ∀ {t r}, requestUnloadFrog [u8 f.val] s = .answer t r [] →
      unload = .next (t.answered src 0x13 tag r []) := fun hj => exec_answered rfl (h.args (by simp)) hj
  have hrefs : frogReferencesOk f p s = true ↔ valid := frogReferencesOk_iff
  refine ⟨fun hv => hload (requestLoadFrog_invalid hp (Bool.not_eq_true _ ▸ fun hr => hv (hrefs.mp hr))),
    fun hv hf => hload (requestLoadFrog_new hp (hrefs.mpr hv) hf), fun hf => hunload (requestUnloadFrog_none hf),
    fun g hg => ⟨fun hq hm => ?_, fun hb => ?_⟩⟩
  · have hrest : g.resting = true := (Frog.resting_iff g).mpr ⟨hq, hm⟩
    refine ⟨fun hv => ?_, hunload ((requestUnloadFrog_held hg).trans (if_pos hrest))⟩
    rw [← Frog.reloaded_eq]
    exact hload ((requestLoadFrog_held hp (hrefs.mpr hv) hg).trans (if_pos hrest))
  · have hbusy : ¬ g.resting = true := fun hr => by
      obtain ⟨hq, hm⟩ := (Frog.resting_iff g).mp hr
      exact hb.elim (· hq) fun ⟨r, hr⟩ => hm r hr
    exact ⟨fun hv => hload ((requestLoadFrog_held hp (hrefs.mpr hv) hg).trans (if_neg hbusy)),
      hunload ((requestUnloadFrog_held hg).trans (if_neg hbusy))⟩

end Sys2Proof.Machine
end

section
/-!
PROOFS. The reads (R171, R172): the layouts of the model and the tables of the manual agree field by field. The statement settled
stands at the end.
-/

namespace Sys2Proof.Machine

variable {s t : State}

/-! ## Fields of the read replies (spec/10 section 10.2) -/

/-- A timer reads as the time it has left (log entry 4). -/
theorem remainingBytes_remaining (now : Time) (timer : Timer) : remainingBytes (timer.remaining now) = timeLeft now timer := by
  cases timer with
  | stopped => rfl
  | running d n p =>
    unfold Timer.remaining timeLeft
    dsimp only
    by_cases hr : reached now d = true
    · rw [if_pos hr]
      have hpast : (d - now).toNat = 0 ∨ 65535 < (d - now).toNat := by simpa [reached] using hr
      obtain h0 | hfar := hpast
      · have hd : d = now := sub_eq_zero.mp (BitVec.eq_of_toNat_eq h0)
        simp [hd, remainingBytes]
      · rw [if_neg (by omega)]
        rfl
    · rw [if_neg hr]
      have hahead : (d - now).toNat ≤ 65535 := by
        simp only [reached, Bool.or_eq_true, decide_eq_true_eq, not_or] at hr
        omega
      rw [if_pos hahead]
      rfl

theorem vehicleCount_eq_countP (s : State) (i : SectionIx) :
    s.vehicleCount i = s.vehicles.countP fun v => decide (v.located = some i) := List.countP_eq_length_filter.symm

theorem leakCount_eq_countP (s : State) (i : SectionIx) :
    s.leakCount i = s.vehicles.countP fun v => decide (v.located = some i) && v.insulation := List.countP_eq_length_filter.symm

theorem flatMap_range_four (place : Nat → List Byte) :
    (List.range 4).flatMap place = place 0 ++ place 1 ++ place 2 ++ place 3 := by simp [List.range_succ]

theorem powered_eq_any (s : State) (i : SectionIx) :
    s.powered i = (s.sect i).any fun x => decide (x.state = .live) && !x.prot.supplyLost := by
  unfold State.powered
  cases s.sect i <;> rfl

/-! ## Lengths of the fields (R171) -/

@[simp] theorem remainingBytes_length (o : Option Nat) : (remainingBytes o).length = 4 := by cases o <;> rfl

@[simp] theorem outcomeBytes_length (o : Option TestOutcome) : (outcomeBytes o).length = 3 := by
  rcases o with _ | _ | _ | _ | _ | _ <;> rfl

@[simp] theorem tagBytes_length (o : Option VehicleNumber) : (tagBytes o).length = 2 := by cases o <;> rfl

@[simp] theorem drawStart_codes_length (d : DrawStart) : d.codes.length = 3 := by cases d <;> rfl

theorem protection_bytes_length (now : Time) (p : Protection) : (p.bytes now).length = 19 := by
  unfold Protection.bytes
  cases p.window <;> cases p.lowRun <;> rfl

theorem sectFieldBytes_length (i : SectionIx) (x : Sect) : (sectFieldBytes s i x).length = 15 := by simp [sectFieldBytes]

theorem unitBytes_length (i : SectionIx) (u : TestUnit) : (unitBytes i u).length = 9 := by simp [unitBytes]

theorem queuePlace_length (q : List Request) (n : Nat) : (queuePlace s q n).length = 7 := by
  unfold queuePlace
  cases q[n]? with
  | none => rfl
  | some r =>
    dsimp only [requestBytes]
    split <;> simp

theorem captureBytes_length (now : Time) (c : Capture) : (captureBytes now c).length = 23 := by simp [captureBytes]

theorem conclusionBytes_length (c : Option Conclusion) : (conclusionBytes s c).length = 10 := by
  rcases c with _ | ⟨_ | _ | _, _, _, _, _⟩ <;> simp [conclusionBytes]

/-! ## Requests that read (R171, R172) -/

theorem requestReadSection_none {i : SectionIx} (hx : s.sect i = none) :
    requestReadSection [u8 i.val] s = refuse .notFound s := by
  have hix : indexOf 48 (argU8 [u8 i.val] 0) = some i := indexOf_u8 i (by omega)
  unfold requestReadSection
  rw [if_neg (by simp), hix]
  dsimp only
  rw [hx]

theorem requestReadSection_held {i : SectionIx} {x : Sect} (hx : s.sect i = some x) :
    requestReadSection [u8 i.val] s = .answer s .ok (sectionData s i x) := by
  have hix : indexOf 48 (argU8 [u8 i.val] 0) = some i := indexOf_u8 i (by omega)
  unfold requestReadSection
  rw [if_neg (by simp), hix]
  dsimp only
  rw [hx]

theorem requestReadFrog_none {f : FrogIx} (hg : s.frog f = none) : requestReadFrog [u8 f.val] s = refuse .notFound s := by
  have hix : indexOf 64 (argU8 [u8 f.val] 0) = some f := indexOf_u8 f (by omega)
  unfold requestReadFrog
  rw [if_neg (by simp), hix]
  dsimp only
  rw [hg]

theorem requestReadFrog_held {f : FrogIx} {g : Frog} (hg : s.frog f = some g) :
    requestReadFrog [u8 f.val] s = .answer (s.setFreeCount (s.freeCount + 15)) .ok (frogData s f g) := by
  have hix : indexOf 64 (argU8 [u8 f.val] 0) = some f := indexOf_u8 f (by omega)
  unfold requestReadFrog
  rw [if_neg (by simp), hix]
  dsimp only
  rw [hg]

theorem requestReadVehicle_none {n : VehicleNumber} (hv : s.vehicle n = none) :
    requestReadVehicle (bcdBytes n) s = refuse .notFound s := by
  unfold requestReadVehicle
  rw [if_neg (fun h => h rfl), argNumber_bcdBytes]
  dsimp only
  rw [hv]

theorem requestReadVehicle_held {n : VehicleNumber} {v : Vehicle} (hv : s.vehicle n = some v) :
    requestReadVehicle (bcdBytes n) s = .answer s .ok (vehicleData s v) := by
  unfold requestReadVehicle
  rw [if_neg (fun h => h rfl), argNumber_bcdBytes]
  dsimp only
  rw [hv]

theorem requestReadOrders_from {b : Byte} (hb : b.toNat ≤ 31) : requestReadOrders [b] s =
    .answer s (if 12 < (s.orders.drop b.toNat).length then .full else .ok) ([u8 s.orders.length, b
      , u8 (min 12 (s.orders.drop b.toNat).length)] ++ ((s.orders.drop b.toNat).take 12).flatMap (orderBytes s)) := by
  have harg : argU8 [b] 0 = b.toNat := rfl
  unfold requestReadOrders
  rw [if_neg (by simp), harg, if_neg (by omega), u8_byte]
  dsimp only
  rw [List.length_take]

/-! ## The statement settled -/

/-- Settles O55: each layout field by field. -/
theorem reads : Obligations.Reads := by
  intro s src seq tag h left free
  have hleft : ∀ timer, remainingBytes (timer.remaining s.partTime) = left timer := remainingBytes_remaining s.partTime
  refine ⟨fun i hx => ?_, fun i x hx => ?_, fun f hg => ?_, fun f g hg => ?_, fun n hv => ?_, fun n v hv => ?_, fun b hb => ?_⟩
  · exact exec_answered rfl (h.args (by simp)) (requestReadSection_none hx)
  · intro p u parameters protection controller testUnit
    have hprotection : x.prot.bytes s.partTime = protection := by
      dsimp only [protection, p]
      unfold Protection.bytes Protection.flagsByte
      cases x.prot.window <;> cases x.prot.lowRun <;> rfl
    have hcontroller : sectFieldBytes s i x = controller := by
      dsimp only [controller]
      unfold sectFieldBytes
      rw [hleft, vehicleCount_eq_countP, leakCount_eq_countP]
      cases x.wait <;> rfl
    have htest : unitBytes i u = testUnit := by
      dsimp only [testUnit]
      unfold unitBytes
      have hheld : flagByte u.holder.isSome = if u.holder = none then 0x00 else 0x01 := by cases u.holder <;> rfl
      have hwaits : flagByte (decide (i ∈ u.waiting)) = if i ∈ u.waiting then 0x01 else 0x00 := by simp [flagByte]
      rw [hheld, hwaits]
      rcases u.lastTest with _ | ⟨j, _ | _ | _ | _ | _⟩ <;> rfl
    have hdata : sectionData s i x = parameters ++ protection ++ controller ++ testUnit := by
      rw [← hprotection, ← hcontroller, ← htest]
      rfl
    refine ⟨exec_answered rfl (h.args (by simp)) ((requestReadSection_held hx).trans (by rw [hdata])), ?_, ?_, ?_, ?_⟩
    · simp [parameters, SectionParams.bytes_length]
    · rw [← hprotection, protection_bytes_length]
    · rw [← hcontroller, sectFieldBytes_length]
    · rw [← htest, unitBytes_length]
  · exact exec_answered rfl (h.args (by simp)) (requestReadFrog_none hg)
  · intro c parameters controller queue capture conclusion
    have hcontroller : [g.position.code, g.position.targetCode, g.blocks.code, flagByte g.untracked, u8 g.queue.length
        , (g.wait.map fun r => (throwKind r).code).getD 0x00] ++ remainingBytes (g.throwTimer.remaining s.partTime)
        ++ remainingBytes (g.exitTimer.remaining s.partTime) = controller := by
      rw [hleft, hleft]
      dsimp only [controller]
      rcases g.wait with _ | _ | _ <;> rfl
    have hqueue : queuePlace s g.queue 0 ++ queuePlace s g.queue 1 ++ queuePlace s g.queue 2 ++ queuePlace s g.queue 3
        = queue := by
      have hplace : ∀ k, queuePlace s g.queue k = match g.queue[k]? with
          | none => [0xFF, 0xFF, 0xFF, 0xFF, 0xFF, 0xFF, 0xFF]
          | some r => (match r.kind with
            | .passage t w => [0x01, r.target.code] ++ tagBytes t ++ beWord w
            | .dispatch => [0x02, r.target.code, 0xFF, 0xFF, free (2 * k), free (2 * k + 1)]
            | .returning => [0x03, r.target.code, 0xFF, 0xFF, free (2 * k), free (2 * k + 1)]) ++ [r.phase.code] := fun k => by
        unfold queuePlace requestBytes
        cases g.queue[k]? with
        | none => rfl
        | some r => dsimp only; cases r.kind <;> rfl
      dsimp only [queue]
      rw [flatMap_range_four]
      exact congrArg₂ (· ++ ·) (congrArg₂ (· ++ ·) (congrArg₂ (· ++ ·) (hplace 0) (hplace 1)) (hplace 2)) (hplace 3)
    have hcapture : captureBytes s.partTime g.capture = capture := by
      unfold captureBytes
      rw [hleft, hleft]
      dsimp only [capture]
      rfl
    have hconclusion : conclusionBytes s g.capture.last = conclusion := by
      dsimp only [conclusion, c]
      unfold conclusionBytes
      rcases g.capture.last with _ | ⟨_ | _ | _, _, _, _, _⟩ <;> rfl
    have hdata : frogData s f g = parameters ++ controller ++ queue ++ capture ++ conclusion := by
      rw [← hcontroller, ← hqueue, ← hcapture, ← hconclusion]
      simp only [frogData, List.append_assoc]
      rfl
    refine ⟨exec_answered rfl (h.args (by simp)) ((requestReadFrog_held hg).trans (by rw [hdata]; rfl)), ?_, ?_, ?_, ?_, ?_⟩
    · simp [parameters, FrogParams.bytes_length]
    · simp [← hcontroller]
    · simp [← hqueue, queuePlace_length]
    · rw [← hcapture, captureBytes_length]
    · rw [← hconclusion, conclusionBytes_length]
  · exact exec_answered rfl (h.args (by simp [bcdBytes])) (requestReadVehicle_none hv)
  · refine exec_answered rfl (h.args (by simp [bcdBytes])) ((requestReadVehicle_held hv).trans ?_)
    unfold vehicleData
    rw [hleft, vehicle_number hv]
    have hdewire : indexByte (v.dewire.getD none) = match v.dewire with
        | some (some f) => u8 f.val
        | _ => 0xFF := by rcases v.dewire with _ | _ | _ <;> rfl
    have hderived : (s.derived v).code = if v.dewire.isSome || v.insulation || v.bounce then 0x00 else match v.located with
        | some i => if (s.sect i).any fun x => decide (x.state = .live) && !x.prot.supplyLost then 0x02 else 0x01
        | none => 0x03 := by
      unfold State.derived Vehicle.faulted
      split
      · rfl
      · cases v.located with
        | none => rfl
        | some i => simp only [powered_eq_any]; split <;> rfl
    rw [hdewire, hderived]
    rfl
  · refine exec_answered rfl (h.args (by simp)) ((requestReadOrders_from hb).trans ?_)
    refine congrArg (Verdict.answer s _) (congrArg _ (List.flatMap_congr fun e _ => ?_))
    have hstate : e.stateByte :: e.sendBytes s.partTime = match e.state with
        | .queued => [if e.kind = .trip ∨ e.kind = .opening then 0x01 else 0x00, 0x00, 0xFF, 0xFF]
        | .sent q ack => [if e.kind = .trip ∨ e.kind = .opening then 0x03 else 0x02, q] ++ (left ack).drop 2 := by
      unfold Order.sendBytes Order.stateByte
      cases e.state with
      | queued => cases e.kind <;> rfl
      | sent q ack =>
        dsimp only
        rw [← hleft]
        cases e.kind <;> cases Timer.remaining s.partTime ack <;> rfl
    have howner : (s.ownerOf e.target).bytes = match s.sectAt e.target, s.frogAt e.target with
        | some i, _ => [0x01, u8 i.val]
        | none, some f => [0x02, u8 f.val]
        | none, none => [0x00, 0xFF] := by
      unfold State.ownerOf
      cases s.sectAt e.target <;> cases s.frogAt e.target <;> rfl
    have hentry : orderBytes s e = beWord e.target ++ [e.kind.code] ++ (e.stateByte :: e.sendBytes s.partTime)
        ++ (s.ownerOf e.target).bytes := by simp [orderBytes]
    rw [hentry, hstate]
    exact congrArg (HAppend.hAppend _) howner

end Sys2Proof.Machine
end

section
/-!
PROOFS. The head check of a frog in each of its cases, and the dispatcher throw (R25, R91 to R95, R100). The statement settled
stands at the end.
-/

namespace Sys2Proof.Machine

variable {s t : State} {f : FrogIx} {g : Frog} {r : Request} {rest : List Request}

/-! ## The registration of a THROW (R129 to R132) -/

/-- A THROW with room and no live entry in its way is registered. -/
theorem register_throw_taken {l : List Order} {a : LineAddr} (d : Route) (h : ∀ e ∈ l, e.target ≠ a) (hl : l.length ≤ 27) :
    register l a (throwKind d) = (l ++ [{ target := a, kind := throwKind d, state := .queued }], .taken) := by
  rw [register_of_forall_ne h]
  exact if_pos ((hasRoom_iff ..).mpr (.inr hl))

theorem throwKind_urgent (d : Route) : (throwKind d).urgent = false := by cases d <;> rfl

/-- A THROW with an entry of another kind in its way, or no room, is refused, and the list stands. -/
theorem register_throw_refused {l : List Order} {a : LineAddr} (d : Route)
    (hno : ∀ e ∈ l, e.target = a → e.kind ≠ .throwNormal ∧ e.kind ≠ .throwReverse)
    (h : (∃ e ∈ l, e.target = a) ∨ 28 ≤ l.length) :
    (register l a (throwKind d)).1 = l ∧ (register l a (throwKind d)).2.registered = false := by
  unfold register
  split
  next hnone =>
    have hlen : 28 ≤ l.length := h.resolve_left fun ⟨e, he, ha⟩ => by
      simpa [ha] using List.find?_eq_none.mp hnone e he
    have hroom : ¬ hasRoom l (throwKind d) = true := by
      rw [hasRoom_iff]
      cases d <;> simp [throwKind] <;> omega
    rw [registerFresh, if_neg hroom]
    exact ⟨rfl, rfl⟩
  next e he =>
    have ha : e.target = a := by simpa using List.find?_some he
    obtain ⟨hn, hr⟩ := hno e (List.mem_of_find?_eq_some he) ha
    rw [if_neg (by cases d <;> assumption), if_neg (by simp [throwKind_urgent])]
    exact ⟨rfl, rfl⟩

/-! ## The head check (R93, R94, R100) -/

theorem checkHead_nil (hg : s.frog f = some g) (hq : g.queue = []) : checkHead f s = (s, false) :=
  checkHead_notWaiting hg (by rw [hq]; rfl)

theorem checkHead_eq_checkQueue (hg : s.frog f = some g) {q : List Request} (hq : g.queue = q) :
    checkHead f s = checkQueue f q s := by
  unfold checkHead
  rw [hg, ← hq]

section
variable (hg : s.frog f = some g) (hq : g.queue = r :: rest) (hr : r.phase = .waiting)
include hg hq hr

/-- A WAITING head that may not be served keeps no registration wait. -/
theorem checkHead_unready (hm : ¬ mayServe s g) : checkHead f s = (s.putFrog f (some { g with wait := none }), false) := by
  rw [checkHead_eq_checkQueue hg hq]
  unfold checkQueue
  rw [hg]
  dsimp only
  rw [if_neg (not_not_intro hr), if_neg (mt headReady_iff.mp hm)]

/-- A PASSAGE at its target goes to SET. -/
theorem checkHead_sets {tag : Option VehicleNumber} {w : Tick} (hm : mayServe s g) (hp : g.position = .at r.target)
    (hk : r.kind = .passage tag w) : checkHead f s = (s.putFrog f (some { g with
      queue := { r with phase := .set } :: rest, wait := none
      exitTimer := Timer.startHalves s.partTime g.params.exitTimeout }), true) := by
  rw [checkHead_eq_checkQueue hg hq]
  unfold checkQueue
  rw [hg]
  dsimp only
  rw [if_neg (not_not_intro hr), if_pos (headReady_iff.mpr hm), if_pos hp, hk]

/-- A DISPATCH or RETURN entry at its target leaves the queue, and the next head is checked. -/
theorem checkHead_passesOn (hm : mayServe s g) (hp : g.position = .at r.target)
    (hk : r.kind = .dispatch ∨ r.kind = .returning) :
    checkHead f s = ((checkHead f (s.putFrog f (some { g with queue := rest, wait := none }))).1, true) := by
  rw [checkHead_eq_checkQueue hg hq, checkHead_eq_checkQueue (s := s.putFrog f _) (State.frog_putFrog_same ..) rfl]
  conv_lhs => unfold checkQueue
  rw [hg]
  dsimp only
  rw [if_neg (not_not_intro hr), if_pos (headReady_iff.mpr hm), if_pos hp]
  obtain hk | hk := hk <;> rw [hk]

theorem checkHead_throws (hm : mayServe s g) (hp : g.position ≠ .at r.target) :
    checkHead f s = serveByThrow f g r rest s := by
  rw [checkHead_eq_checkQueue hg hq]
  unfold checkQueue
  rw [hg]
  dsimp only
  rw [if_neg (not_not_intro hr), if_pos (headReady_iff.mpr hm), if_neg hp]

end

theorem serveByThrow_taken (h : ∀ e ∈ s.orders, e.target ≠ g.params.ctrlAddr) (hl : s.orders.length ≤ 27) :
    serveByThrow f g r rest s = ((s.setOrders (s.orders ++
      [{ target := g.params.ctrlAddr, kind := throwKind r.target, state := .queued }])).putFrog f (some { g with
        queue := { r with phase := .throwing } :: rest, position := .moving r.target, wait := none
        throwTimer := Timer.start s.partTime g.params.throwTimeout }), true) := by
  unfold serveByThrow
  rw [register_throw_taken r.target h hl]
  rfl

theorem serveByThrow_refused (hm : mayServe s g)
    (h : (∃ e ∈ s.orders, e.target = g.params.ctrlAddr) ∨ 28 ≤ s.orders.length) :
    serveByThrow f g r rest s = (s.putFrog f (some { g with wait := some r.target }), false) := by
  obtain ⟨-, -, hno⟩ := hm
  obtain ⟨hlist, hanswer⟩ := register_throw_refused r.target hno h
  unfold serveByThrow
  dsimp only
  rw [hanswer, hlist]
  rfl

theorem setOrders_putFrog_putFrog (f : FrogIx) (l : List Order) (x y : Option Frog) :
    ((s.putFrog f x).setOrders l).putFrog f y = (s.setOrders l).putFrog f y := putFrog_putFrog (s := s.setOrders l) f x y

/-! ## The frogs a section powers (R25) -/

/-- A turn in the check of a section's frogs leaves every frog's parameters. -/
theorem headTurn_params (i : SectionIx) (t : State) (f k : FrogIx) :
    ((headTurn i t f).frog k).map Frog.params = (t.frog k).map Frog.params := by
  unfold headTurn
  cases hg : t.frog f with
  | none => rfl
  | some g =>
    dsimp only
    split
    next =>
      rw [frog_noteFrog]
      obtain ⟨⟨h, hh, hparams, -, -, -⟩, hothers⟩ := checkHead_kept hg
      by_cases hk : k = f
      · subst hk; rw [hh, hg, Option.map_some, Option.map_some, hparams]
      · rw [hothers k hk]
    next => rfl

/-- Which frogs have a turn is decided by the state before the first. -/
theorem foldl_headTurn (i : SectionIx) (l : List FrogIx) {t : State}
    (h : ∀ k, (t.frog k).map Frog.params = (s.frog k).map Frog.params) :
    l.foldl (headTurn i) t = l.foldl (fun t f =>
      if (s.frog f).any (fun g => decide (g.params.powerSection = i)) then headChecked f t else t) t := by
  induction l generalizing t with
  | nil => rfl
  | cons f l ih =>
    have hany : (s.frog f).any (fun g => decide (g.params.powerSection = i))
        = (t.frog f).any fun g => decide (g.params.powerSection = i) := by
      have hmap : ∀ o : Option Frog, o.any (fun g => decide (g.params.powerSection = i))
          = (o.map Frog.params).any fun p => decide (p.powerSection = i) := fun o => by cases o <;> rfl
      rw [hmap, hmap, h f]
    have hturn : headTurn i t f
        = if (s.frog f).any (fun g => decide (g.params.powerSection = i)) then headChecked f t else t := by
      rw [hany]
      unfold headTurn
      cases t.frog f with
      | none => rfl
      | some g => simp only [Option.any_some, decide_eq_true_eq, noteFrog_checkHead]
    rw [List.foldl_cons, List.foldl_cons, ih fun k => (headTurn_params i t f k).trans (h k), hturn]

/-! ## The dispatcher throw (R91) -/

theorem joinQueue_behind {k : RequestKind} {d : Route} (hg : s.frog f = some g) (hq : g.queue ≠ []) : joinQueue f k d s
    = (s.putFrog f (some { g with queue := g.queue ++ [{ kind := k, target := d, phase := .waiting }] }), false) := by
  unfold joinQueue
  rw [hg]
  exact if_neg hq

theorem joinQueue_head {k : RequestKind} {d : Route} (hg : s.frog f = some g) (hq : g.queue = []) : joinQueue f k d s
    = ((checkHead f (s.putFrog f (some { g with queue := [{ kind := k, target := d, phase := .waiting }] }))).1, true) := by
  unfold joinQueue
  rw [hg]
  dsimp only
  rw [if_pos hq, hq]
  rfl

theorem noteFrog_true (f : FrogIx) (t : State) : noteFrog f (t, true) = raiseFrog f t := rfl

theorem noteFrog_false (f : FrogIx) (t : State) : noteFrog f (t, false) = t := rfl

theorem dispatcherThrow_full {d : Route} (hg : s.frog f = some g) (hl : 4 ≤ g.queue.length) : dispatcherThrow f d s
    = raise (.orderRefused g.params.ctrlAddr (throwKind d).code .full) s := by
  unfold dispatcherThrow
  rw [hg]
  exact if_neg (Nat.not_lt.mpr hl)

theorem dispatcherThrow_joins {d : Route} (hg : s.frog f = some g) (hl : g.queue.length < 4) : dispatcherThrow f d s
    = noteFrog f (joinQueue f .dispatch d s) := by
  unfold dispatcherThrow
  rw [hg]
  exact if_pos hl

theorem interceptFrog_throw {code : Byte} {d : Route} (hg : s.frog f = some g)
    (hc : code = 0x05 ∧ d = .normal ∨ code = 0x06 ∧ d = .reverse) : interceptFrog f [code] s = dispatcherThrow f d s := by
  unfold interceptFrog
  rw [hg]
  obtain ⟨rfl, rfl⟩ | ⟨rfl, rfl⟩ := hc <;> rfl

/-! ## The statement settled -/

/-- Settles O34: the head check by the cases of R93 and R94, each frog's turn, and the throw at an empty, a waiting and a full
queue. -/
theorem dispatcherThrow_holds : Obligations.DispatcherThrow := by
  refine ⟨fun s f g hg => ⟨checkHead_nil hg, fun r rest hq => ⟨fun hr => ?_, fun hr hm => checkHead_unready hg hq hr hm,
    fun tag w hr hm hp hk => checkHead_sets hg hq hr hm hp hk, fun hr hm hp hk => checkHead_passesOn hg hq hr hm hp hk,
    fun hr hm hp => ⟨fun hno hl => ?_, fun hbar => ?_⟩⟩⟩, fun s i => foldl_headTurn i _ fun _ => rfl,
    fun s f g dest src seq code d hs hsrc hi hf hg hc => ?_⟩
  · exact checkHead_notWaiting hg (by rw [hq]; exact decide_eq_false hr)
  · exact (checkHead_throws hg hq hr hm hp).trans (serveByThrow_taken hno hl)
  · exact (checkHead_throws hg hq hr hm hp).trans (serveByThrow_refused hm hbar)
  · intro run r
    have hrun : run = .next (dispatcherThrow f d s) :=
      (exec_orderInterceptFrog hs hsrc (by simp) hi hf seq).trans (by rw [interceptFrog_throw hg hc])
    have hcode : (throwKind d).code = code := by obtain ⟨rfl, rfl⟩ | ⟨rfl, rfl⟩ := hc <;> rfl
    have hchecked : g.queue = [] →
        run = .next (raiseFrog f (checkHead f (s.putFrog f (some { g with queue := [r] }))).1) := fun hq => by
      rw [hrun, dispatcherThrow_joins hg (by simp [hq]), joinQueue_head hg hq, noteFrog_true]
    have hput : (s.putFrog f (some { g with queue := [r] })).frog f = some { g with queue := [r] } := State.frog_putFrog_same ..
    refine ⟨fun hl => ?_, fun hq hl => ?_, hchecked, fun hq hm => ?_, fun hq hm hp => ?_, fun hq hm hp => ⟨fun hno hl => ?_,
      fun hbar => ?_⟩⟩
    · rw [hrun, dispatcherThrow_full hg hl, hcode]
    · rw [hrun, dispatcherThrow_joins hg hl, joinQueue_behind hg hq, noteFrog_false]
    · rw [hchecked hq, checkHead_unready hput rfl rfl hm, putFrog_putFrog]
    · rw [hchecked hq, checkHead_passesOn hput rfl rfl hm hp (.inl rfl), checkHead_nil (State.frog_putFrog_same ..) rfl,
        putFrog_putFrog]
    · rw [hchecked hq, checkHead_throws hput rfl rfl hm hp,
        serveByThrow_taken (s := s.putFrog f (some { g with queue := [r] })) (g := { g with queue := [r] }) hno hl]
      rw [setOrders_putFrog_putFrog]
      rfl
    · rw [hchecked hq, checkHead_throws hput rfl rfl hm hp,
        serveByThrow_refused (s := s.putFrog f (some { g with queue := [r] })) (g := { g with queue := [r] }) hm hbar,
        putFrog_putFrog]

end Sys2Proof.Machine
end

section
/-!
PROOFS. The throws and passages of a frog: POSITION reports, the throw and exit timers, the exit, and the conclusion of a contact
(R76 to R81, R89, R90, R92, R98 to R103, R119, R120). The statements settled stand at the end.
-/

namespace Sys2Proof.Machine

variable {s t : State} {f : FrogIx} {g : Frog} {r : Request} {rest : List Request}

/-! ## Work on a frog whose record has just been put in its place (R86, R93) -/

theorem raiseFrog_putFrog (f : FrogIx) (g : Frog) (s : State) : raiseFrog f (s.putFrog f (some g))
    = raise (.frogState f g.position (headView g.queue) g.queue.length) (s.putFrog f (some g)) :=
  raiseFrog_eq (State.frog_putFrog_same ..)

theorem blockGained_putFrog (f : FrogIx) (g : Frog) (r : BlockReason) (x : Option Frog) (s : State) :
    blockGained f g r (s.putFrog f x) = blockGained f g r s := by
  unfold blockGained
  rw [putFrog_putFrog, putFrog_putFrog]

theorem addBlock_putFrog (f : FrogIx) (g : Frog) (r : BlockReason) (s : State) :
    addBlock f r (s.putFrog f (some g)) = (blockGained f g r s, false) := by
  rw [addBlock_eq r (State.frog_putFrog_same ..), blockGained_putFrog]

/-- A frog that has just gained a reason is blocked: its head check withdraws a WAITING head's registration wait (R93). -/
theorem checkHead_blockGained (f : FrogIx) (g : Frog) (r : BlockReason) (s : State) :
    checkHead f (blockGained f g r s) = (blockGained f { g with
      wait := if g.queue.head?.any (fun q => decide (q.phase = .waiting)) then none else g.wait } r s, false) := by
  unfold blockGained
  dsimp only
  cases h : g.blocks.has r with
  | true =>
    rw [if_pos rfl, if_pos rfl, checkHead_blocked (State.frog_putFrog_same ..) (blocked_of_has h), putFrog_putFrog]
  | false =>
    rw [if_neg Bool.false_ne_true, if_neg Bool.false_ne_true, ← raise_putFrog,
      checkHead_blocked (State.frog_putFrog_same ..) (blocked_of_has (has_put _ r true)), putFrog_putFrog, raise_putFrog]
    dsimp only
    cases g.blocks.blocked <;> cases g.queue.head?.any (fun q => decide (q.phase = .waiting)) <;> rfl

theorem clearOverflowIfEmpty_busy (hg : s.frog f = some g) (hq : g.queue ≠ []) : clearOverflowIfEmpty f s = (s, false) := by
  unfold clearOverflowIfEmpty
  rw [hg]
  exact if_neg hq

/-- A queue that has become empty loses OVERFLOW (R92). -/
theorem clearOverflowIfEmpty_empty (hg : s.frog f = some g) (hq : g.queue = []) : clearOverflowIfEmpty f s
    = (if g.blocks.overflow then raise (.frogBlock f .overflow false { g.blocks with overflow := false })
        (s.putFrog f (some { g with blocks := { g.blocks with overflow := false } })) else s, false) := by
  unfold clearOverflowIfEmpty
  rw [hg]
  dsimp only
  rw [if_pos hq, removeBlock_notWaiting .overflow hg (by rw [hq]; rfl)]
  rfl

/-! ## Throws (R98, R99) -/

/-- A failure of the throw (R98, R99), whole. -/
theorem failThrow_eq (hg : s.frog f = some g) (hq : g.queue = r :: rest) : failThrow f s = (blockGained f { g with
    position := .unknown, throwTimer := .stopped, queue := { r with phase := .waiting } :: rest, wait := none }
    .position s, true) := by
  unfold failThrow
  rw [hg]
  dsimp only
  rw [hq]
  dsimp only [FrogWork.followedBy]
  rw [addBlock_putFrog, checkHead_blockGained]
  rfl

theorem setHead_passage {tag : Option VehicleNumber} {w : Tick} (hg : s.frog f = some g) (hq : g.queue = r :: rest)
    (hk : r.kind = .passage tag w) : setHead f s = (s.putFrog f (some { g with
      position := .at r.target, throwTimer := .stopped, queue := { r with phase := .set } :: rest
      exitTimer := Timer.startHalves s.partTime g.params.exitTimeout }), true) := by
  unfold setHead
  rw [hg]
  dsimp only
  rw [hq]
  dsimp only
  rw [hk]

/-- A DISPATCH or RETURN head that reaches its target leaves the queue (R92, R98, R100). -/
theorem setHead_other (hg : s.frog f = some g) (hq : g.queue = r :: rest) (hk : r.kind = .dispatch ∨ r.kind = .returning) :
    setHead f s = FrogWork.followedBy (FrogWork.followedBy
      (s.putFrog f (some { g with position := .at r.target, throwTimer := .stopped, queue := rest }), true)
      (clearOverflowIfEmpty f)) (checkHead f) := by
  unfold setHead
  rw [hg]
  dsimp only
  rw [hq]
  obtain hk | hk := hk <;> (dsimp only; rw [hk])

/-- The queue goes on behind a head that has left it: its next head is checked, or OVERFLOW goes with the last entry (R92). -/
theorem goesOn_eq (f : FrogIx) (g : Frog) (s : State) :
    let w := FrogWork.followedBy (FrogWork.followedBy (s.putFrog f (some g), true) (clearOverflowIfEmpty f)) (checkHead f)
    w.2 = true ∧ (g.queue ≠ [] → w.1 = (checkHead f (s.putFrog f (some g))).1) ∧
    (g.queue = [] → w.1 = if g.blocks.overflow then raise (.frogBlock f .overflow false { g.blocks with overflow := false })
        (s.putFrog f (some { g with blocks := { g.blocks with overflow := false } })) else s.putFrog f (some g)) := by
  dsimp only [FrogWork.followedBy]
  have hput : (s.putFrog f (some g)).frog f = some g := State.frog_putFrog_same ..
  refine ⟨rfl, fun hq => by rw [clearOverflowIfEmpty_busy hput hq], fun hq => ?_⟩
  rw [clearOverflowIfEmpty_empty hput hq]
  dsimp only
  split
  next =>
    rw [putFrog_putFrog, ← raise_putFrog]
    exact congrArg Prod.fst (checkHead_nil (g := { g with blocks := { g.blocks with overflow := false } })
      (State.frog_putFrog_same ..) hq)
  next => rw [checkHead_nil hput hq]

/-! ## POSITION reports (R97, R98, R103) -/

/-- A POSITION report that qualifies is processed and left to the filter (R97, R146). -/
theorem exec_positionReport {dest src : LineAddr} {code : Byte} {rep : PositionReport} (hs : s.supervising)
    (hsrc : src ≠ 0x0000) (hf : s.frogAt src = some f) (hp : parsePosition [code] = some rep) (seq : Byte) :
    exec (.positionReport dest src seq [code]) s
      = .next (fileFrame .field (makeFrame dest src 0x21 seq [code]) (noteFrog f (positionWork f rep s))) := by
  have hproc : processField (makeFrame dest src 0x21 seq [code]) s = noteFrog f (positionWork f rep s) := by
    simp [processField, makeFrame, kindSample, kindBreaker, kindTestResult, kindPosition, hf, hp]
  exact congrArg Host.Outcome.next
    ((arriveFrame_field hs (makeFrame dest src 0x21 seq [code])
      (show (0x21 : Byte) ≠ kindMgmt by decide) hsrc (show 1 ≤ 120 by decide)).trans (by rw [hproc]))

theorem parsePosition_code (d : Route) : parsePosition [d.code] = some (.at d) := by cases d <;> rfl

theorem headTarget_cons (r : Request) (rest : List Request) : headTarget (r :: rest) = some r.target := rfl

theorem headIn_cons {ph : RequestPhase} (hr : r.phase = ph) : headIn ph (r :: rest) = true := decide_eq_true hr

section
variable (hg : s.frog f = some g) (hq : g.queue = r :: rest) (hr : r.phase = .throwing)
include hg hq hr

theorem positionWork_target : positionWork f (.at r.target) s = setHead f s := by
  unfold positionWork
  rw [hg]
  dsimp only
  rw [hq, if_pos (headIn_cons hr), if_pos (headTarget_cons r rest)]

theorem positionWork_other : positionWork f (.at r.target.other) s = (s, false) := by
  have hne : ¬ headTarget (r :: rest) = some r.target.other := fun h => by
    cases ht : r.target <;> simp [headTarget, ht, Route.other] at h
  unfold positionWork
  rw [hg]
  dsimp only
  rw [hq, if_pos (headIn_cons hr), if_neg hne]

theorem positionWork_lost : positionWork f .lost s = failThrow f s := by
  unfold positionWork
  rw [hg]
  dsimp only
  rw [hq, if_pos (headIn_cons hr)]

end

/-- MOVING changes nothing (R98, R103). -/
theorem positionWork_moving (f : FrogIx) (s : State) : positionWork f .moving s = (s, false) := by
  unfold positionWork
  cases s.frog f with
  | none => rfl
  | some g => dsimp only; split <;> rfl

/-- The position a report carries. -/
def reportedPosition : PositionReport → Position
  | .at d => .at d
  | _ => .unknown

theorem positionWork_rest {rep : PositionReport} (hg : s.frog f = some g) (hq : headIn .throwing g.queue = false)
    (hm : rep ≠ .moving) : positionWork f rep s = movePosition f (reportedPosition rep) s := by
  unfold positionWork
  rw [hg]
  dsimp only
  rw [if_neg (by simp [hq])]
  match rep with
  | .at _ => rfl
  | .moving => exact absurd rfl hm
  | .lost => rfl

theorem movePosition_held (hg : s.frog f = some g) : movePosition f g.position s = (s, false) := by
  unfold movePosition
  rw [hg]
  exact if_pos rfl

section
variable {p : Position} (hg : s.frog f = some g) (hp : g.position ≠ p)
include hg hp

theorem movePosition_empty (hq : g.queue = []) : movePosition f p s = (s.putFrog f (some { g with position := p }), true) := by
  unfold movePosition
  rw [hg]
  dsimp only
  rw [if_neg hp, hq]
  rfl

theorem movePosition_waiting (hq : g.queue = r :: rest) (hr : r.phase = .waiting) : movePosition f p s
    = ((checkHead f (s.putFrog f (some { g with position := p }))).1, true) := by
  have hset : ¬ headSetPassage (r :: rest) = true := fun h => by
    unfold headSetPassage at h
    split at h
    next heq => cases heq; cases hr
    next => cases h
  unfold movePosition
  rw [hg]
  dsimp only
  rw [if_neg hp, hq, if_neg hset, if_pos (headIn_cons hr)]
  rfl

/-- A change of position under a set passage adds POSITION (R103). -/
theorem movePosition_set (hq : headSetPassage g.queue = true) : movePosition f p s
    = (blockGained f { g with position := p } .position s, true) := by
  unfold movePosition
  rw [hg]
  dsimp only
  rw [if_neg hp, if_pos hq]
  dsimp only [FrogWork.followedBy]
  rw [addBlock_putFrog]
  rfl

end

/-! ## The throw timer and the exit timer (R83, R99, R102) -/

section
variable (hg : s.frog f = some g)
include hg

theorem throwExpiry_notDue (h : ¬ (g.throwTimer.expired s.partTime && headIn .throwing g.queue) = true) :
    throwExpiry f s = s := by
  unfold throwExpiry
  rw [hg]
  exact if_neg h

theorem throwExpiry_due (h : g.throwTimer.expired s.partTime = true) (hq : headIn .throwing g.queue = true) :
    throwExpiry f s = noteFrog f (failThrow f s) := by
  unfold throwExpiry
  rw [hg]
  exact if_pos (by rw [h, hq]; rfl)

theorem exitFirstPeriod_notDue (h : g.exitTimer.periodEnded s.partTime = false) : exitFirstPeriod f s = s := by
  unfold exitFirstPeriod
  rw [hg]
  exact if_neg (by simp [h])

theorem exitFirstPeriod_due (h : g.exitTimer.periodEnded s.partTime = true) :
    exitFirstPeriod f s = s.putFrog f (some { g with exitTimer := g.exitTimer.nextPeriod }) := by
  unfold exitFirstPeriod
  rw [hg]
  exact if_pos h

theorem exitExpiry_notDue (h : ¬ (g.exitTimer.expired s.partTime && headSetPassage g.queue) = true) :
    exitExpiry f s = s := by
  unfold exitExpiry
  rw [hg]
  exact if_neg h

theorem exitExpiry_due (h : (g.exitTimer.expired s.partTime && headSetPassage g.queue) = true) :
    exitExpiry f s = noteFrog f (FrogWork.followedBy (FrogWork.followedBy (FrogWork.followedBy
        (s.putFrog f (some { g with queue := g.queue.tail, exitTimer := .stopped }), true)
        (clearOverflowIfEmpty f)) (addBlock f .exit)) (checkHead f)) := by
  unfold exitExpiry
  rw [hg]
  exact if_pos h

end

/-- OVERFLOW where the queue has emptied, EXIT, and the check of the next head, which is now blocked (R92, R102). -/
theorem exitLeft_eq (f : FrogIx) (g : Frog) (s : State) :
    let w := FrogWork.followedBy (FrogWork.followedBy (FrogWork.followedBy (s.putFrog f (some g), true)
      (clearOverflowIfEmpty f)) (addBlock f .exit)) (checkHead f)
    w.2 = true ∧
    (g.queue ≠ [] ∨ g.blocks.overflow = false → w.1 = blockGained f { g with
      wait := if g.queue.head?.any (fun q => decide (q.phase = .waiting)) then none else g.wait } .exit s) ∧
    (g.queue = [] → g.blocks.overflow = true →
      w.1 = blockGained f { g with blocks := { g.blocks with overflow := false } } .exit
        (raise (.frogBlock f .overflow false { g.blocks with overflow := false }) s)) := by
  dsimp only [FrogWork.followedBy]
  have hput : (s.putFrog f (some g)).frog f = some g := State.frog_putFrog_same ..
  refine ⟨rfl, fun h => ?_, fun hq ho => ?_⟩
  · have hclear : clearOverflowIfEmpty f (s.putFrog f (some g)) = (s.putFrog f (some g), false) := by
      by_cases hq : g.queue = []
      · rw [clearOverflowIfEmpty_empty hput hq, if_neg (by simp [h.resolve_left (not_not_intro hq)])]
      · exact clearOverflowIfEmpty_busy hput hq
    rw [hclear, addBlock_putFrog, checkHead_blockGained]
  · rw [clearOverflowIfEmpty_empty hput hq, if_pos ho, putFrog_putFrog, ← raise_putFrog, addBlock_putFrog,
      checkHead_blockGained]
    dsimp only
    rw [hq]
    rfl

/-! ## The exit (R75, R101, R102, R120) -/

theorem noteFrog_told {w : FrogWork} (h : w.2 = true) : noteFrog f w = raiseFrog f w.1 := if_pos h

/-- An event that hears of a vehicle and then changes its entry, in the form of the statements (`onEntry`). -/
theorem onEntry_heard (n : VehicleNumber) (e : Vehicle → Vehicle) (after untracked : State → State) :
    onEntry n s (fun l => after (s.setVehicles (heardAs s n e l))) untracked
      (if (obtainVehicle n s).2 then after ((hearVehicle n (obtainVehicle n s).1).editVehicle n e)
        else untracked (obtainVehicle n s).1) := by
  have h := onEntry_obtainVehicle (s := s) n (fun t => after ((hearVehicle n t).editVehicle n e)) untracked
  simpa only [hearVehicle_editVehicle] using h

theorem onEntry_placeVehicle (n : VehicleNumber) (i : SectionIx) (s : State) :
    onEntry n s (fun l => s.setVehicles (heardAs s n (fun v => { v with located := some i }) l)) id (placeVehicle n i s) :=
  onEntry_heard n (fun v => { v with located := some i }) id id

theorem placeVehicle_frogs (n : VehicleNumber) (i : SectionIx) (s : State) : (placeVehicle n i s).frogs = s.frogs := by
  unfold placeVehicle
  dsimp only
  split <;> exact obtainVehicle_frogs n

theorem handPlacement_frogs (tag : Option VehicleNumber) (i : SectionIx) (s : State) :
    (handPlacement tag i s).frogs = s.frogs := by
  cases tag with
  | none => rfl
  | some n => exact placeVehicle_frogs n i s

theorem joinReturn_stays (hg : s.frog f = some g)
    (h : ¬ (g.queue = [] ∧ g.params.returns = true ∧ g.position ≠ .at g.params.dflt)) : joinReturn f s = (s, false) := by
  unfold joinReturn
  rw [hg]
  exact if_neg h

theorem joinReturn_joins (hg : s.frog f = some g)
    (h : g.queue = [] ∧ g.params.returns = true ∧ g.position ≠ .at g.params.dflt) : joinReturn f s
    = (s.putFrog f (some { g with queue := [{ kind := .returning, target := g.params.dflt, phase := .waiting }] }), true) := by
  unfold joinReturn
  rw [hg]
  exact if_pos h

theorem exitWork_noPassage (hg : s.frog f = some g)
    (h : ∀ tag w target rest, g.queue ≠ { kind := .passage tag w, target, phase := .set } :: rest) :
    exitWork f s = (blockGained f g .exit s, false) := by
  unfold exitWork
  rw [hg]
  dsimp only
  split
  next hq => exact (h _ _ _ _ hq).elim
  next => exact addBlock_eq .exit hg

/-- The frog's part of a completed passage that has left the queue (R92, R101): OVERFLOW and the RETURN entry where the queue has
emptied, and the check of the head. -/
def passageLeft (f : FrogIx) (s : State) : FrogWork :=
  FrogWork.followedBy (FrogWork.followedBy (FrogWork.followedBy (s, true) (clearOverflowIfEmpty f)) (joinReturn f)) (checkHead f)

theorem exitWork_passage {tag : Option VehicleNumber} {w : Tick} {target : Route} (hg : s.frog f = some g)
    (hq : g.queue = { kind := .passage tag w, target, phase := .set } :: rest) :
    exitWork f s = passageLeft f
      (handPlacement tag (g.params.leg target) (s.putFrog f (some { g with queue := rest, exitTimer := .stopped }))) := by
  unfold exitWork
  rw [hg]
  dsimp only
  rw [hq]
  rfl

/-- What follows a completed passage at a frog `g` that it has left behind (R92, R101). -/
theorem passageLeft_eq (hg : s.frog f = some g) :
    let w := passageLeft f s
    w.2 = true ∧ (g.queue ≠ [] → w.1 = (checkHead f s).1) ∧
    (g.queue = [] →
      let e := { g with blocks := { g.blocks with overflow := false } }
      let c := if g.blocks.overflow then raise (.frogBlock f .overflow false e.blocks) (s.putFrog f (some e)) else s
      (g.params.returns = false ∨ g.position = .at g.params.dflt → w.1 = c) ∧
      (g.params.returns = true → g.position ≠ .at g.params.dflt → w.1 = (checkHead f (c.putFrog f (some { e with
        queue := [{ kind := .returning, target := g.params.dflt, phase := .waiting }] }))).1)) := by
  intro w
  have hw : w.1 = (checkHead f (joinReturn f (clearOverflowIfEmpty f s).1).1).1 := rfl
  rw [hw]
  refine ⟨rfl, fun hq => ?_, fun hq => ?_⟩
  · rw [clearOverflowIfEmpty_busy hg hq, joinReturn_stays hg fun h => hq h.1]
  · intro e c
    have hc : c.frog f = some e := by
      cases ho : g.blocks.overflow with
      | true => simp [c, ho]
      | false =>
        have he : e = g := by simp only [e, ← ho]
        simp [c, ho, hg, he]
    have hclear : (clearOverflowIfEmpty f s).1 = c := congrArg Prod.fst (clearOverflowIfEmpty_empty hg hq)
    rw [hclear]
    refine ⟨fun h => ?_, fun hr hp => ?_⟩
    · rw [joinReturn_stays hc fun ⟨_, hr, hp⟩ => h.elim (by simp [e] at hr; simp [hr]) hp]
      exact congrArg Prod.fst (checkHead_nil hc hq)
    · rw [joinReturn_joins hc ⟨hq, hr, hp⟩]

/-! ## The conclusion of a contact (R76 to R81, R89, R90, R119) -/

theorem editCapture_putFrog (f : FrogIx) (g : Frog) (h : Capture → Capture) (s : State) :
    (s.putFrog f (some g)).editCapture f h = s.putFrog f (some { g with capture := h g.capture }) := by
  rw [editCapture_eq (State.frog_putFrog_same ..) rfl, putFrog_putFrog]

theorem editCapture_raise (b : NoticeBody) (f : FrogIx) (h : Capture → Capture) (s : State) :
    (raise b s).editCapture f h = raise b (s.editCapture f h) := by
  unfold State.editCapture State.editFrog
  rw [show (raise b s).frog f = s.frog f from frog_congr (raise_frogs b) f]
  cases s.frog f with
  | none => rfl
  | some g => exact raise_putFrog ..

theorem editCapture_raiseFrog (f : FrogIx) (h : Capture → Capture) (s : State) :
    (raiseFrog f s).editCapture f h = raiseFrog f (s.editCapture f h) := by
  cases hg : s.frog f with
  | none => simp [raiseFrog, State.editCapture, State.editFrog, hg]
  | some g => rw [raiseFrog_eq hg, editCapture_raise, editCapture_eq hg rfl, raiseFrog_putFrog]

theorem editCapture_blockGained (f : FrogIx) (g : Frog) (r : BlockReason) (h : Capture → Capture) (s : State) :
    (blockGained f g r s).editCapture f h = blockGained f { g with capture := h g.capture } r s := by
  unfold blockGained
  dsimp only
  split
  · exact editCapture_putFrog ..
  · rw [editCapture_raise, editCapture_putFrog]

/-- The check of a PASSAGE that is the only entry does not look at the capture record (R93, R94). -/
theorem editCapture_checkHead (f : FrogIx) {g : Frog} {r : Request} {tag : Option VehicleNumber} {w : Tick}
    (hq : g.queue = [r]) (hr : r.phase = .waiting) (hk : r.kind = .passage tag w) (h : Capture → Capture) (s : State) :
    (checkHead f (s.putFrog f (some g))).1.editCapture f h
      = (checkHead f (s.putFrog f (some { g with capture := h g.capture }))).1 := by
  have hput : ∀ g : Frog, (s.putFrog f (some g)).frog f = some g := fun g => State.frog_putFrog_same ..
  have hput' := hput { g with capture := h g.capture }
  by_cases hm : mayServe s g
  · by_cases hp : g.position = .at r.target
    · rw [checkHead_sets (hput g) hq hr hm hp hk, checkHead_sets hput' hq hr hm hp hk]
      dsimp only
      rw [putFrog_putFrog, editCapture_putFrog, putFrog_putFrog]
      rfl
    · rw [checkHead_throws (hput g) hq hr hm hp, checkHead_throws hput' hq hr hm hp]
      unfold serveByThrow
      dsimp only [State.putFrog_orders]
      split
      · dsimp only
        rw [setOrders_putFrog_putFrog, setOrders_putFrog_putFrog, editCapture_putFrog]
        rfl
      · dsimp only
        rw [setOrders_putFrog_putFrog, setOrders_putFrog_putFrog, editCapture_putFrog]
  · rw [checkHead_unready (hput g) hq hr hm, checkHead_unready hput' hq hr hm]
    dsimp only
    rw [putFrog_putFrog, editCapture_putFrog, putFrog_putFrog]

section
variable {route : Route} {tag : Option VehicleNumber} {w : Tick} (hg : s.frog f = some g)
include hg

theorem takePassage_joins (hl : g.queue.length < 4) : takePassage f route tag w s = joinQueue f (.passage tag w) route s := by
  unfold takePassage
  rw [hg]
  exact if_pos hl

theorem takePassage_full (hl : 4 ≤ g.queue.length) : takePassage f route tag w s = (blockGained f g .overflow s, false) := by
  unfold takePassage
  rw [hg]
  exact (if_neg (Nat.not_lt.mpr hl)).trans (addBlock_eq .overflow hg)

end

theorem judgement_stall {c : Capture} {p : FrogParams} (h : c.stall = true ∨ p.wMax < c.width.toNat) :
    c.judgement p = .stall := by
  unfold Capture.judgement
  exact if_pos (by simpa using h)

section
variable {c : Capture} {p : FrogParams} (hs : c.stall = false) (hw : c.width.toNat ≤ p.wMax)
include hs hw

theorem judgement_noise (h : c.width.toNat < p.wMin) : c.judgement p = .noise := by
  unfold Capture.judgement
  rw [if_neg (by simp [hs, hw]), if_pos h]

theorem judgement_passage (h : p.wMin ≤ c.width.toNat) : c.judgement p = .passage (decide (p.bounceMax < c.bounces))
    (if c.width.toNat ≤ 2 * c.drawTotal then p.drawSense else p.drawSense.other) := by
  unfold Capture.judgement
  rw [if_neg (by simp [hs, hw]), if_neg (Nat.not_lt.mpr h)]

end

theorem handBounce_nothing {bouncing : Bool} {route : Route} {tag : Option VehicleNumber} (h : bouncing = false ∨ tag = none) :
    handBounce f (.passage bouncing route) tag s = s := by
  obtain rfl | rfl := h
  · rfl
  · cases bouncing <;> rfl

theorem conclude_eq {j : Judgement} (hg : s.frog f = some g) (hj : g.capture.judgement g.params = j) : conclude f s
    = (handToFrog f j g.capture.tag g.capture.width (handBounce f j g.capture.tag s)).editCapture f
        fun c => c.concluded g.params := by
  unfold conclude
  rw [hg, ← hj]

/-- A fault record joins an entry that has just been changed (R117). -/
theorem appendFault_editVehicle (n : VehicleNumber) (c : FaultCode) (p : Place) {e : Vehicle → Vehicle}
    (he : ∀ v, (e v).number = v.number) (t : State) : appendFault n c p (t.editVehicle n e)
      = raise (.vehicleFault n c p) (t.editVehicle n fun v => recorded c p t.partTime (e v)) := by
  unfold appendFault
  rw [editVehicle_editVehicle n _ _ he]
  simp only [addRecord_eq]
  rfl

theorem obtainVehicle_partTime (n : VehicleNumber) (s : State) : (obtainVehicle n s).1.partTime = s.partTime := by
  unfold obtainVehicle
  split_ifs
  · rfl
  · rfl
  · cases evictee s.vehicles with
    | none => exact raise_partTime _
    | some v => rfl

/-- A fault reported of a vehicle, in the form of the statements (`onEntry`). -/
theorem onEntry_fault (n : VehicleNumber) (c : FaultCode) (p : Place) {e : Vehicle → Vehicle}
    (he : ∀ v, (e v).number = v.number) (after untracked : State → State) (s : State) :
    onEntry n s (fun l => after (raise (.vehicleFault n c p)
      (s.setVehicles (heardAs s n (fun v => recorded c p s.partTime (e v)) l)))) untracked
      (if (obtainVehicle n s).2 then after (appendFault n c p ((hearVehicle n (obtainVehicle n s).1).editVehicle n e))
        else untracked (obtainVehicle n s).1) := by
  rw [appendFault_editVehicle n c p he,
    show (hearVehicle n (obtainVehicle n s).1).partTime = s.partTime from obtainVehicle_partTime n s]
  exact onEntry_heard n (fun v => recorded c p s.partTime (e v)) (fun t => after (raise (.vehicleFault n c p) t)) untracked

/-- The tag that a conclusion of this judgement keeps (R81; log entry 17). -/
def keptTag (tag : Option VehicleNumber) : Judgement → Option VehicleNumber
  | .passage _ _ => tag
  | _ => if Config.droppedTagKept then tag else none

/-- The concluded record by the judgement (R81). -/
theorem concluded_of {c : Capture} {p : FrogParams} {j : Judgement} (hj : c.judgement p = j) : c.concluded p = { c with
    phase := .idle, settle := .stopped, hold := .stopped, drawStart := .none, drawTotal := 0, bounces := 0, tag := none
    stall := false
    last := some { judgement := j, width := c.width, drawTotal := c.drawTotal, bounces := c.bounces
                   tag := keptTag c.tag j } } := by
  subst hj
  rfl

section
variable (hg : s.frog f = some g)
include hg

theorem settleExpires_notDue (h : ¬ (g.capture.settle.expired s.partTime && decide (g.capture.phase = .settling)) = true) :
    settleExpires f s = s := by
  unfold settleExpires
  rw [hg]
  exact if_neg h

theorem settleExpires_due (h : g.capture.settle.expired s.partTime = true) (hp : g.capture.phase = .settling) :
    settleExpires f s = conclude f s := by
  unfold settleExpires
  rw [hg]
  exact if_pos (by rw [h, decide_eq_true hp]; rfl)

theorem holdExpires_notDue (h : ¬ (g.capture.hold.expired s.partTime && decide (g.capture.phase ≠ .idle)) = true) :
    holdExpires f s = s := by
  unfold holdExpires
  rw [hg]
  exact if_neg h

theorem holdExpires_due (h : g.capture.hold.expired s.partTime = true) (hp : g.capture.phase ≠ .idle) : holdExpires f s
    = blockGained f { g with capture := { g.capture with stall := true, hold := .stopped } } .stall s := by
  unfold holdExpires
  rw [hg]
  dsimp only
  rw [if_pos (by rw [h, decide_eq_true hp]; rfl), editCapture_eq hg rfl, addBlock_putFrog, noteFrog_false]

end

/-! ## The statements settled -/

/-- Settles O37: a report of the target, of the other route, of MOVING and of LOST, each by its case of R98. -/
theorem positionReportDuringAThrow : Obligations.PositionReportDuringAThrow := by
  intro s f g r rest dest src seq code hs hsrc hf hg hq hr filed
  have hrun : ∀ rep, parsePosition [code] = some rep →
      exec (.positionReport dest src seq [code]) s = .next (filed (noteFrog f (positionWork f rep s))) :=
    fun rep hp => exec_positionReport hs hsrc hf hp seq
  have htarget : code = r.target.code →
      exec (.positionReport dest src seq [code]) s = .next (filed (noteFrog f (setHead f s))) := fun hc => by
    rw [hrun (.at r.target) (hc ▸ parsePosition_code _), positionWork_target hg hq hr]
  refine ⟨?ignored, fun hc tag w hk => ?passage, fun hc hk => ?other, fun hc => ?lost⟩
  case ignored =>
    rintro (hc | hc)
    · rw [hrun .moving (by rw [hc]; rfl), positionWork_moving, noteFrog_false]
    · rw [hrun (.at r.target.other) (hc ▸ parsePosition_code _), positionWork_other hg hq hr, noteFrog_false]
  case passage =>
    rw [htarget hc, setHead_passage hg hq hk, noteFrog_true]
    rfl
  case other =>
    intro g'
    obtain ⟨htold, hbusy, hempty⟩ := goesOn_eq f g' s
    have hnoted : noteFrog f (setHead f s) = raiseFrog f (setHead f s).1 := by
      rw [setHead_other hg hq hk]
      exact if_pos htold
    rw [htarget hc, hnoted, setHead_other hg hq hk]
    refine ⟨fun hrest => by rw [hbusy hrest], fun hrest ho => ?_, fun hrest ho => ?_⟩
    · rw [hempty hrest, if_neg (by simp [g', ho])]
    · rw [hempty hrest, if_pos ho]
  case lost =>
    rw [hrun .lost (by rw [hc]; rfl), positionWork_lost hg hq hr, failThrow_eq hg hq, noteFrog_true]

/-- Settles O38: a report moves the position by the cases of R103. -/
theorem positionReportAtRest : Obligations.PositionReportAtRest := by
  intro s f g dest src seq code p hs hsrc hf hg hq filed
  have hrun : ∀ rep, parsePosition [code] = some rep →
      exec (.positionReport dest src seq [code]) s = .next (filed (noteFrog f (positionWork f rep s))) :=
    fun rep hp => exec_positionReport hs hsrc hf hp seq
  refine ⟨fun hc => ?_, fun hcode => ?_⟩
  · rw [hrun .moving (by rw [hc]; rfl), positionWork_moving, noteFrog_false]
  · have hmove : exec (.positionReport dest src seq [code]) s = .next (filed (noteFrog f (movePosition f p s))) := by
      obtain ⟨rep, hp, hm, rfl⟩ :
          ∃ rep, parsePosition [code] = some rep ∧ rep ≠ .moving ∧ reportedPosition rep = p := by
        obtain ⟨rfl, rfl⟩ | ⟨rfl, rfl⟩ | ⟨rfl, rfl⟩ := hcode
        · exact ⟨.at .normal, rfl, nofun, rfl⟩
        · exact ⟨.at .reverse, rfl, nofun, rfl⟩
        · exact ⟨.lost, rfl, nofun, rfl⟩
      rw [hrun rep hp, positionWork_rest hg hq hm]
    rw [hmove]
    refine ⟨fun h => ?_, fun h hempty => ?_, fun h ⟨r, rest, hhead, hr⟩ => ?_, fun h hset => ?_⟩
    · rw [← h, movePosition_held hg, noteFrog_false]
    · rw [movePosition_empty hg h hempty, noteFrog_true]
    · rw [movePosition_waiting hg h hhead hr, noteFrog_true]
    · rw [movePosition_set hg h hset, noteFrog_true]

/-- Settles O39: the throw timer by the failure of the throw, the exit timer by the passage it takes out. -/
theorem frogTimerExpiries : Obligations.FrogTimerExpiries := by
  intro s f g r rest hg hq
  refine ⟨fun h => ?_, fun h hr => ?_, fun d n p ht hd => ?_, fun h => ?_, fun h => ?_, fun ht hset hbehind => ?_⟩
  · refine congrArg Host.Outcome.next (throwExpiry_notDue hg ?_)
    rw [hq]
    rcases h with h | h <;> simp [h, headIn]
  · refine congrArg Host.Outcome.next ?_
    rw [throwExpiry_due hg h (by rw [hq]; exact headIn_cons hr), failThrow_eq hg hq, noteFrog_true]
  · refine congrArg Host.Outcome.next ?_
    rw [exitFirstPeriod_due hg (by rw [ht]; exact hd), ht]
    rfl
  · exact congrArg Host.Outcome.next (exitFirstPeriod_notDue hg h)
  · refine congrArg Host.Outcome.next (exitExpiry_notDue hg ?_)
    rcases h with h | h <;> simp [h]
  · obtain ⟨tag, w, target, hr⟩ : ∃ tag w target, r = { kind := .passage tag w, target, phase := .set } := by
      rw [hq] at hset
      unfold headSetPassage at hset
      split at hset
      next heq => exact ⟨_, _, _, (List.cons.inj heq).1⟩
      next => cases hset
    obtain ⟨htold, hexit, hclears⟩ := exitLeft_eq f { g with queue := rest, exitTimer := .stopped } s
    have hrun : exec (.exitTimerExpiry f) s = .next (exitExpiry f s) := rfl
    have hleft := (exitExpiry_due hg (by rw [ht, hset]; rfl)).trans (if_pos htold)
    rw [hq] at hleft
    intro g' b
    refine ⟨fun h => ?_, fun hempty ho => ?_⟩
    · have hwait : (if rest.head?.any (fun q => decide (q.phase = .waiting)) then none else g.wait)
          = if rest = [] then g.wait else none := by
        cases rest with
        | nil => rfl
        | cons k _ => simp [hbehind k (by simp)]
      rw [hrun, hleft, List.tail_cons, hexit h, hwait]
    · rw [hrun, hleft, List.tail_cons, hclears hempty ho]
      simp [g', b, hempty]

/-- Settles O40: the passage an exit completes, with its vehicle placed and the queue gone on, or EXIT. -/
theorem exitShoeFall : Obligations.ExitShoeFall := by
  intro s f g dest src seq t1 t0 v1 v0 n hs hsrc hf hg hn left
  have hleft : left = noteFrog f (exitWork f s) := rfl
  have hparse : parseSkate [0x01, 0x06, t1, t0, v1, v0] = some [{ edge := .exitFall, tick := t1 ++ t0, number := n }] := by
    simp [parseSkate, parseEvents, hn, parseEdge, word]
  have hlength : [0x01, 0x06, t1, t0, v1, v0].length ≤ 120 := by simp
  have hrun := exec_skateFrame (dest := dest) (seq := seq) hs hsrc hf hlength hparse
  rw [List.foldl_cons, List.foldl_nil] at hrun
  refine ⟨hrun, fun h => ?_, fun tag w target rest hq => ?_⟩
  · rw [hleft, exitWork_noPassage hg h, noteFrog_false]
  · intro g' u
    let b := handPlacement tag (g.params.leg target) u
    have hb : b.frog f = some g' :=
      (frog_congr (handPlacement_frogs tag (g.params.leg target) u) f).trans (State.frog_putFrog_same ..)
    obtain ⟨htold, hbusy, hempty⟩ := passageLeft_eq hb
    have hwork : left = raiseFrog f (passageLeft f b).1 := by rw [hleft, exitWork_passage hg hq, noteFrog_told htold]
    refine ⟨b, fun ht => by simp only [b, ht]; rfl, fun m ht => ?_, fun hrest => by rw [hwork, hbusy hrest],
      fun hrest => ?_⟩
    · have hplace : b = placeVehicle m (g.params.leg target) u := by simp only [b, ht]; rfl
      rw [hplace]
      have h := onEntry_placeVehicle m (g.params.leg target) u
      cases target <;> exact h
    · intro e c
      obtain ⟨hstays, hreturns⟩ := hempty hrest
      refine ⟨fun h => ?_, fun hr hp => ?_⟩
      · rw [hwork, hstays h]
      · rw [hwork, hreturns hr hp]

/-- Settles O36: a conclusion by its judgement, the two skate timers by the phase they act in. -/
theorem skateTimerExpiries : Obligations.SkateTimerExpiries := by
  intro s f g hg
  refine ⟨fun h => ?_, fun h hp => ?_, ?_, fun h => ?_, fun h hp => ?_⟩
  · refine congrArg Host.Outcome.next (settleExpires_notDue hg ?_)
    rcases h with h | h <;> simp [h]
  · exact congrArg Host.Outcome.next (settleExpires_due hg h hp)
  · intro c w route bouncing ended dropped passed g'
    refine ⟨fun h => ?_, fun hst hw h => ?_, fun hst hw h => ?_⟩
    · have hj : g.capture.judgement g.params = .stall := judgement_stall h
      have hc : c.concluded g.params = ended .stall dropped := concluded_of hj
      rw [conclude_eq hg hj]
      show (noteFrog f (addBlock f .stall s)).editCapture f _ = _
      rw [noteFrog_addBlock .stall hg, editCapture_blockGained]
      exact congrArg (fun c => blockGained f { g with capture := c } .stall s) hc
    · have hj : g.capture.judgement g.params = .noise := judgement_noise hst hw h
      have hc : c.concluded g.params = ended .noise dropped := concluded_of hj
      rw [conclude_eq hg hj]
      exact editCapture_eq hg hc
    · have hj : g.capture.judgement g.params = .passage bouncing route := judgement_passage hst hw h
      have hc : c.concluded g.params = ended (.passage bouncing route) c.tag := concluded_of hj
      let b := handBounce f (.passage bouncing route) c.tag s
      have hb : b.frog f = some g := (frog_congr (handBounce_frogs f _ _) f).trans hg
      have hconclude : conclude f s
          = (noteFrog f (takePassage f route c.tag w b)).editCapture f fun c => c.concluded g.params := conclude_eq hg hj
      refine ⟨b, fun hno => ?_, fun n hbounce htag => ?_, fun hq => ?_, fun hq hl => ?_, fun hl => ?_⟩
      · exact handBounce_nothing hno
      · have h := onEntry_fault n .bounce (.atFrog f) (e := fun v => { v with bounce := true }) (fun _ => rfl) id id s
        have hb' : b = bounceVehicle n f s := by
          simp only [b, hbounce, htag]
          rfl
        rw [hb']
        exact h
      · rw [hconclude, takePassage_joins hb (by simp [hq]), joinQueue_head hb hq, noteFrog_true, editCapture_raiseFrog,
          editCapture_checkHead f rfl rfl rfl]
        exact congrArg (fun c => raiseFrog f (checkHead f (b.putFrog f (some { g with
          queue := [passed], capture := c }))).1) hc
      · rw [hconclude, takePassage_joins hb hl, joinQueue_behind hb hq, noteFrog_false, editCapture_putFrog]
        exact congrArg (fun c => b.putFrog f (some { g with queue := g.queue ++ [passed], capture := c })) hc
      · rw [hconclude, takePassage_full hb hl, noteFrog_false, editCapture_blockGained]
        exact congrArg (fun c => blockGained f { g with capture := c } .overflow b) hc
  · refine congrArg Host.Outcome.next (holdExpires_notDue hg ?_)
    rcases h with h | h <;> simp [h]
  · exact congrArg Host.Outcome.next (holdExpires_due hg h hp)

end Sys2Proof.Machine
end

section
/-!
PROOFS. The VEHICLE reports (R107 to R117, R121). The statements settled stand at the end.
-/

namespace Sys2Proof.Machine

variable {s t : State} {n : VehicleNumber}

/-! ## A VEHICLE payload of well-formed fields (R108) -/

theorem parseIndexField_named {k : Nat} (hk : k ≤ 255) {ok : Fin k → Bool} {j : Fin k} (hj : ok j = true) :
    parseIndexField k ok (BitVec.ofNat 8 j.val) = some (some j) := by
  have hval : (BitVec.ofNat 8 j.val).toNat = j.val := by
    rw [BitVec.toNat_ofNat]
    exact Nat.mod_eq_of_lt (by omega)
  have hnone : BitVec.ofNat 8 j.val ≠ 0xFF := fun h => by
    have := congrArg BitVec.toNat h
    rw [hval] at this
    exact absurd this (by have := j.isLt; simp; omega)
  unfold parseIndexField
  rw [if_neg hnone, hval, show indexOf k j.val = some j from dif_pos j.isLt]
  exact if_pos hj

theorem parseIndexField_none (k : Nat) (ok : Fin k → Bool) : parseIndexField k ok 0xFF = some none := if_pos rfl

/-- A field of a report names what it says (R108). -/
theorem parseIndexField_field {k : Nat} (hk : k ≤ 255) {ok : Fin k → Bool} {b : Byte} {o : Option (Fin k)}
    (h : b = 0xFF ∧ o = none ∨ ∃ j, o = some j ∧ b = BitVec.ofNat 8 j.val ∧ ok j = true) :
    parseIndexField k ok b = some o := by
  obtain ⟨rfl, rfl⟩ | ⟨j, rfl, rfl, hj⟩ := h
  · exact parseIndexField_none k ok
  · exact parseIndexField_named hk hj

/-- Each scope of R115 by its code: the faults it takes from an entry. -/
theorem parseScope_code {scope : Byte} (h : scope ∈ [(0x01 : Byte), 0x02, 0x03, 0x04]) :
    ∃ c, parseScope scope = some c ∧ (c.takesDewire = true ↔ scope = 0x01 ∨ scope = 0x04) ∧
      ∀ v : Vehicle, v.cleared c = { v with
        dewire := if scope = 0x01 ∨ scope = 0x04 then none else v.dewire
        insulation := if scope = 0x02 ∨ scope = 0x04 then false else v.insulation
        bounce := if scope = 0x03 ∨ scope = 0x04 then false else v.bounce } := by
  fin_cases h
  · exact ⟨.dewire, rfl, by decide, fun _ => rfl⟩
  · exact ⟨.insulation, rfl, by decide, fun _ => rfl⟩
  · exact ⟨.bounce, rfl, by decide, fun _ => rfl⟩
  · exact ⟨.all, rfl, by decide, fun _ => rfl⟩

/-- A VEHICLE frame that qualifies is taken and left to the filter (R109, R146). -/
theorem exec_vehicleFrame {dest src : LineAddr} {seq : Byte} {payload : List Byte} {rep : VehicleReport} (hs : s.supervising)
    (hsrc : src ≠ 0x0000) (hl : payload.length ≤ 120)
    (hp : parseVehicle (fun i => (s.sect i).isSome) (fun g => (s.frog g).isSome) payload = some (n, rep)) :
    exec (.vehicleFrame dest src seq payload) s
      = .next (fileFrame .field (makeFrame dest src 0x31 seq payload) (takeReport n rep s)) := by
  have hproc : processField (makeFrame dest src 0x31 seq payload) s = takeReport n rep s := by
    simp [processField, makeFrame, kindSample, kindBreaker, kindTestResult, kindPosition, kindSkate, kindVehicle, hp]
  exact congrArg Host.Outcome.next
    ((arriveFrame_field hs (makeFrame dest src 0x31 seq payload)
      (show (0x31 : Byte) ≠ kindMgmt by decide) hsrc hl).trans (by rw [hproc]))

/-! ## The entry of a number -/

theorem vehicle_editVehicle {e : Vehicle → Vehicle} (he : ∀ v, (e v).number = v.number) :
    (s.editVehicle n e).vehicle n = (s.vehicle n).map e := by
  have hnumber : (fun v : Vehicle => decide (v.number = n)) ∘ (fun v => if v.number = n then e v else v)
      = fun v => decide (v.number = n) := by
    funext v
    by_cases h : v.number = n <;> simp [h, he]
  unfold State.vehicle State.editVehicle
  rw [show ∀ l, (s.setVehicles l).vehicles = l from fun _ => rfl, List.find?_map, hnumber]
  refine Option.map_congr fun v hv => ?_
  exact if_pos (by simpa using List.find?_some hv)

/-- An entry that has just been made holds no active DEWIRE (R110). -/
theorem entryMade_dewire {l : List Vehicle} (hn : s.vehicle n = none) (hm : entryMade n s l) :
    ((s.setVehicles l).vehicle n).bind Vehicle.dewire = none := by
  have hfree : ∀ v ∈ s.vehicles, v.number ≠ n := fun v hv => by simpa using List.find?_eq_none.mp hn v hv
  cases hv : (s.setVehicles l).vehicle n with
  | none => rfl
  | some v =>
    have hnum : v.number = n := vehicle_number hv
    have hmem : v ∈ l := List.mem_of_find?_eq_some hv
    have hfresh : v.dewire = none := by
      by_cases hlen : s.vehicles.length < 128
      · obtain rfl | h := List.mem_cons.mp ((hm.1 hlen).mem_iff.mp hmem)
        · rfl
        · exact absurd hnum (hfree v h)
      · obtain ⟨e, -, -, -, hp⟩ := hm.2 (by omega)
        obtain rfl | h := List.mem_cons.mp (hp.mem_iff.mp hmem)
        · rfl
        · exact absurd hnum (hfree v (List.mem_filter.mp h).1)
    exact hfresh

/-- What an entry's active DEWIRE was before a report is what the table said before it (R110, R113). -/
theorem dewire_obtainVehicle (n : VehicleNumber) (s : State) (h : (obtainVehicle n s).2 = true) :
    ((hearVehicle n (obtainVehicle n s).1).vehicle n).bind Vehicle.dewire = (s.vehicle n).bind Vehicle.dewire := by
  have hheard : ∀ t : State, ((hearVehicle n t).vehicle n).bind Vehicle.dewire = (t.vehicle n).bind Vehicle.dewire :=
    fun t => by
      rw [hearVehicle, vehicle_editVehicle (e := Vehicle.heardAt _ _) fun _ => rfl]
      cases t.vehicle n <;> rfl
  rw [hheard]
  obtain ⟨hheld, hmade, hfull⟩ := obtainVehicle_cases (s := s) n
  cases hn : s.vehicle n with
  | some v => rw [hheld (by rw [hn]; rfl), hn]
  | none =>
    by_cases hroom : s.vehicles.length < 128 ∨ ∃ v ∈ s.vehicles, faultFree v
    · obtain ⟨l, hm, ho⟩ := hmade hn hroom
      rw [ho]
      exact entryMade_dewire hn hm
    · push Not at hroom
      rw [hfull hn hroom.1 hroom.2] at h
      cases h

/-! ## The changes of a report (R112 to R116, R121) -/

/-- A report but SIGN_OFF needs the entry (R109, R111). -/
theorem takeReport_onEntry {rep : VehicleReport} (h : rep ≠ .signOff) : takeReport n rep s
    = if (obtainVehicle n s).2 then reportOnEntry n rep (hearVehicle n (obtainVehicle n s).1)
      else untrackedReport rep (obtainVehicle n s).1 := if_neg h

theorem placedIn_eq (i : Option SectionIx) (v : Vehicle) : v.placedIn i = { v with located := i.or v.located } := by
  cases i <;> rfl

/-- The frog a DEWIRE report names is told (R111, R121). -/
def dewireTold (f : Option FrogIx) (untracked : Bool) (t : State) : State :=
  match f.bind fun k => (t.frog k).map fun g => (k, g) with
  | some (k, g) => blockGained k { g with untracked := g.untracked || untracked } .dewire t
  | none => t

theorem addDewire_eq (k : FrogIx) (t : State) : addDewire k t = dewireTold (some k) false t := by
  unfold addDewire dewireTold
  cases hg : t.frog k with
  | none => simp [addBlock, hg, noteFrog_false]
  | some g =>
    rw [noteFrog_addBlock .dewire hg]
    simp [hg]

theorem addUntrackedDewire_eq (k : FrogIx) (t : State) : addUntrackedDewire k t = dewireTold (some k) true t := by
  unfold addUntrackedDewire addDewire dewireTold State.editFrog
  cases hg : t.frog k with
  | none => simp [addBlock, hg, noteFrog_false]
  | some g =>
    dsimp only
    rw [addBlock_putFrog, noteFrog_false]
    simp [hg]

theorem untrackedReport_dewire (i : Option SectionIx) (f : Option FrogIx) (t : State) :
    untrackedReport (.dewire i f) t = dewireTold f true t := by
  cases f with
  | none => rfl
  | some k => exact addUntrackedDewire_eq k t

theorem dewireReport_eq (i : Option SectionIx) (f : Option FrogIx) {old : Option (Option FrogIx)}
    (hold : (t.vehicle n).bind Vehicle.dewire = old) : dewireReport n i f t
    = (let u := dewireTold f false (appendFault n .dewire (dewirePlace i f)
        (t.editVehicle n fun v => { v with dewire := some f, located := i.or v.located }))
      if old = some f then u else dewireReviewed old u) := by
  unfold dewireReport
  dsimp only
  simp only [hold, placedIn_eq, reviewLeft_eq]
  cases f with
  | none => rfl
  | some k => simp only [addDewire_eq]

theorem clearReport_eq {scope : Byte} {c : ClearScope} {old : Option (Option FrogIx)}
    (hold : (t.vehicle n).bind Vehicle.dewire = old) (hc : c.takesDewire = true ↔ scope = 0x01 ∨ scope = 0x04) :
    clearReport n c t = if scope = 0x01 ∨ scope = 0x04 then dewireReviewed old (t.editVehicle n (Vehicle.cleared c))
      else t.editVehicle n (Vehicle.cleared c) := by
  unfold clearReport
  simp only [hold, reviewLeft_eq, hc]

/-! ## The statements settled -/

/-- Settles O41: LOCATE on the entry held or made, and the removal of an entry. -/
theorem locateReport : Obligations.LocateReport := by
  intro s dest src seq v1 v0 place frog scope n i f hs hsrc hn hi hf hscope run filed
  obtain ⟨c, hc, -⟩ := parseScope_code hscope
  have hplace := parseIndexField_field (ok := fun i => (s.sect i).isSome) (by omega) hi
  have hfrog := parseIndexField_field (ok := fun g => (s.frog g).isSome) (by omega) hf
  have hrun : ∀ kind rep, reportOf kind i f c = some rep → run kind = .next (filed kind (takeReport n rep s)) :=
    fun kind rep hr => exec_vehicleFrame hs hsrc (by simp) (by simp [parseVehicle, hn, hplace, hfrog, hc, hr])
  refine ⟨⟨_, ?_, hrun 0x01 _ rfl⟩, fun hv => ?_, fun v hv => ?_⟩
  · rw [takeReport_onEntry (rep := .locate i) nofun]
    exact onEntry_heard n (fun v => { v with located := i }) id id
  · rw [hrun 0x05 .signOff rfl, show takeReport n .signOff s = signOff n s from rfl]
    unfold signOff
    rw [hv]
  · rw [hrun 0x05 .signOff rfl, show takeReport n .signOff s = signOff n s from rfl, signOff_held hv]

/-- Settles O42: each report on the entry held or made, with the active DEWIRE it had before. -/
theorem dewireReport_holds : Obligations.DewireReport := by
  intro s dest src seq v1 v0 place frog scope n i f hs hsrc hn hi hf hscope run filed old named at_ dewired
  obtain ⟨c, hc, htakes, hcleared⟩ := parseScope_code hscope
  have hplace := parseIndexField_field (ok := fun i => (s.sect i).isSome) (by omega) hi
  have hfrog := parseIndexField_field (ok := fun g => (s.frog g).isSome) (by omega) hf
  have hrun : ∀ kind rep, reportOf kind i f c = some rep → run kind = .next (filed kind (takeReport n rep s)) :=
    fun kind rep hr => exec_vehicleFrame hs hsrc (by simp) (by simp [parseVehicle, hn, hplace, hfrog, hc, hr])
  have hat : dewirePlace i f = at_ := by cases f <;> cases i <;> rfl
  have hnamed : insulationPlace i = named := by cases i <;> rfl
  have hold := dewire_obtainVehicle n s
  refine ⟨⟨_, ?dewire, hrun 0x02 _ rfl⟩, ⟨_, ?insulation, hrun 0x03 _ rfl⟩, ⟨_, ?clear, hrun 0x04 _ rfl⟩⟩
  case dewire =>
    have h := onEntry_fault n .dewire at_ (e := fun v => { v with dewire := some f, located := i.or v.located }) (fun _ => rfl)
      (fun t => if old = some f then dewireTold f false t else dewireReviewed old (dewireTold f false t)) (dewireTold f true) s
    have hwork : takeReport n (.dewire i f) s = _ := takeReport_onEntry nofun
    rw [hwork]
    cases ho : (obtainVehicle n s).2 with
    | true =>
      rw [ho] at h
      rw [show reportOnEntry n (.dewire i f) _ = _ from dewireReport_eq i f (hold ho), hat]
      exact h
    | false =>
      rw [ho] at h
      rw [untrackedReport_dewire]
      exact h
  case insulation =>
    have h := onEntry_fault n .insulation named (e := fun v => { v with insulation := true, located := i.or v.located })
      (fun _ => rfl) id id s
    have hreport : ∀ t, reportOnEntry n (.insulation i) t = appendFault n .insulation named
        (t.editVehicle n fun v => { v with insulation := true, located := i.or v.located }) := fun t => by
      rw [← hnamed]
      simp only [reportOnEntry, insulationReport, placedIn_eq]
    rw [takeReport_onEntry (rep := .insulation i) nofun, hreport]
    exact h
  case clear =>
    have h := onEntry_heard (s := s) n (Vehicle.cleared c)
      (fun t => if scope = 0x01 ∨ scope = 0x04 then dewireReviewed old t else t) id
    rw [takeReport_onEntry (rep := .clear c) nofun]
    rw [funext hcleared] at h
    cases ho : (obtainVehicle n s).2 with
    | true =>
      rw [ho] at h
      rw [show reportOnEntry n (.clear c) _ = _ from clearReport_eq (hold ho) htakes, funext hcleared]
      exact h
    | false =>
      rw [ho] at h
      exact h

end Sys2Proof.Machine
end

section
/-!
PROOFS. Entry to a section's state as a whole (R24, R25, R42, R49, R51, R55 to R57): the section, the other sections, the test
units, the order list, the notices and the frogs after it, gathered in `Left`. The statements about sections rest on it.
-/

namespace Sys2Proof.Machine

variable {s t u q : State} {i : SectionIx} {x y : Sect} {o : TestOutcome} {l : List Order} {st : SectionState}
  {fl : Option SectionFlag}

/-! ## States that have told the same notices (R157, R158) -/

/-- `t` holds the notices that `q` holds, and would raise the same further ones. -/
structure Told (q t : State) : Prop where
  globals : t.globals = q.globals
  notices : t.notices = q.notices
  lost : t.noticeLost = q.noticeLost

theorem Told.refl (s : State) : Told s s := ⟨rfl, rfl, rfl⟩

theorem Told.symm (h : Told q t) : Told t q := ⟨h.globals.symm, h.notices.symm, h.lost.symm⟩

theorem Told.trans (h : Told q t) (k : Told t u) : Told q u :=
  ⟨k.globals.trans h.globals, k.notices.trans h.notices, k.lost.trans h.lost⟩

theorem Told.raise (h : Told q t) (b : NoticeBody) : Told (raise b q) (raise b t) := by
  obtain ⟨hglobals, hnotices, hlost⟩ := h
  unfold Machine.raise
  rw [hglobals, hnotices]
  split_ifs
  · exact ⟨hglobals, hnotices, hlost⟩
  · exact ⟨hglobals, rfl, hlost⟩
  · exact ⟨hglobals, hnotices, rfl⟩

theorem Told.stateTold (h : Told q t) (i : SectionIx) (y : Sect) : Told (stateTold i y q) (stateTold i y t) := h.raise _

theorem told_registerFor (i : SectionIx) (k : OrderKind) (s : State) : Told s (registerFor i k s) := by
  unfold registerFor
  split <;> exact ⟨rfl, rfl, rfl⟩

theorem told_editSect (i : SectionIx) (g : Sect → Sect) (s : State) : Told s (s.editSect i g) := by
  unfold State.editSect
  split <;> exact ⟨rfl, rfl, rfl⟩

theorem raiseSection_eq (h : s.sect i = some y) : raiseSection i s = stateTold i y s := by
  unfold raiseSection stateTold
  rw [h]

/-- What entry to `st` tells of section `i`, which was `x` and is `y` (R24, R32, R51; log entry 12). -/
def announced (i : SectionIx) (x : Sect) (st : SectionState) (fl : Option SectionFlag) (y : Sect) (s : State) : State :=
  raiseFlagSet i fl (raiseSupplyCleared i x st (stateTold i y s))

theorem Told.raiseFlagSet (h : Told q t) (i : SectionIx) (fl : Option SectionFlag) :
    Told (raiseFlagSet i fl q) (raiseFlagSet i fl t) := by
  cases fl with
  | none => exact h
  | some fl => exact h.raise _

theorem Told.announced (h : Told q t) : Told (announced i x st fl y q) (announced i x st fl y t) := by
  refine Told.raiseFlagSet ?_ i fl
  unfold raiseSupplyCleared
  split
  · exact (h.stateTold i y).raise _
  · exact h.stateTold i y

theorem announced_notLive (h : x.state ≠ .live) : announced i x st fl y s = raiseFlagSet i fl (stateTold i y s) := by
  unfold announced raiseSupplyCleared
  rw [if_neg fun hc => h hc.1]

theorem besideNotices_announced : (announced i x st fl y s).besideNotices = s.besideNotices := by
  unfold announced stateTold
  rw [besideNotices_raiseFlagSet, besideNotices_raiseSupplyCleared, besideNotices_raise]

/-! ## What leaving a test unit tells (R51, R57) -/

/-- The notices after the departure of section `i`, which was `x`, where its own part has told `q`: no more, or the SECTION_STATE
of the section that is granted the unit. -/
structure ToldLeft (i : SectionIx) (x : Sect) (q s t : State) : Prop where
  granted : ∀ j z, x.state = .energizing .testing → (s.unit x.params.testUnit).holder = some i →
    firstFrom (s.unit x.params.testUnit).pointer (s.unit x.params.testUnit).waiting j → t.sect j = some z → j ≠ i →
    Told (stateTold j z q) t
  kept : (x.state = .energizing .testing → (s.unit x.params.testUnit).waiting = []) → Told q t

theorem ToldLeft.congr {s' q' : State} (h : ToldLeft i x q' s' t) (hu : s'.units = s.units) (hq : Told q' q) :
    ToldLeft i x q s t := by
  obtain ⟨hgranted, hkept⟩ := h
  simp only [unit_congr hu] at hgranted hkept
  exact ⟨fun j z a b c d e => (hq.stateTold j z).symm.trans (hgranted j z a b c d e), fun a => hq.symm.trans (hkept a)⟩

/-- The unit that section `i` leaves goes to the first section that waits (R55, R57). -/
theorem leaveTest_granted {j : SectionIx} (o : TestOutcome) (ht : x.state = .energizing .testing)
    (hh : (s.unit x.params.testUnit).holder = some i)
    (hf : firstFrom (s.unit x.params.testUnit).pointer (s.unit x.params.testUnit).waiting j) :
    ∃ v, leaveTest i x o s = enterTesting j (s.putUnit x.params.testUnit v) := by
  have hfirst : firstWaiting (s.unit x.params.testUnit).pointer (s.unit x.params.testUnit).waiting = some j :=
    firstWaiting_iff.mpr hf
  have hput : ∀ v w, (s.putUnit x.params.testUnit v).putUnit x.params.testUnit w = s.putUnit x.params.testUnit w :=
    fun v w => by simp [State.putUnit, State.setUnits]
  simp only [leaveTest, ht, releaseUnit, hh, if_true, grantUnit, State.unit_putUnit, hfirst, hput]
  exact ⟨_, rfl⟩

/-- Nothing but a grant changes more than the test units (R56, R57). -/
theorem leaveTest_ungranted (o : TestOutcome)
    (h : x.state = .energizing .testing → (s.unit x.params.testUnit).waiting = []) :
    ∃ v, leaveTest i x o s = s.setUnits v := by
  unfold leaveTest
  split
  · exact ⟨_, rfl⟩
  next ht =>
    unfold releaseUnit
    split
    · obtain ⟨hg, -⟩ | ⟨k, -, hf, -⟩ := grantUnit_cases x.params.testUnit (s.putUnit x.params.testUnit
          { s.unit x.params.testUnit with holder := none, lastTest := some (i, o) })
      · exact ⟨_, hg⟩
      · have hmem := firstWaiting_mem hf
        simp [h ht] at hmem
    · exact ⟨s.units, rfl⟩
  · exact ⟨s.units, rfl⟩

theorem enterTesting_told {j : SectionIx} {z : Sect} (hz : (enterTesting j s).sect j = some z) :
    Told (stateTold j z s) (enterTesting j s) := by
  unfold enterTesting at hz ⊢
  rw [sect_raiseSection] at hz
  rw [raiseSection_eq hz]
  exact ((told_editSect ..).trans (told_registerFor ..)).stateTold j z

theorem leaveTest_toldLeft (i : SectionIx) (x : Sect) (o : TestOutcome) (s : State) :
    ToldLeft i x s s (leaveTest i x o s) := by
  refine ⟨fun j z ht hh hf hz _ => ?_, fun h => ?_⟩
  · obtain ⟨v, hv⟩ := leaveTest_granted o ht hh hf
    rw [hv] at hz ⊢
    have hput : Told s (s.putUnit x.params.testUnit v) := ⟨rfl, rfl, rfl⟩
    exact (hput.stateTold j z).trans (enterTesting_told hz)
  · obtain ⟨v, hv⟩ := leaveTest_ungranted o h
    rw [hv]
    exact ⟨rfl, rfl, rfl⟩

theorem frogs_registerFor (i : SectionIx) (k : OrderKind) (s : State) : (registerFor i k s).frogs = s.frogs := by
  unfold registerFor
  split <;> rfl

theorem frogs_editSect (i : SectionIx) (g : Sect → Sect) (s : State) : (s.editSect i g).frogs = s.frogs := by
  unfold State.editSect
  split <;> rfl

theorem frogs_raiseSection (i : SectionIx) (s : State) : (raiseSection i s).frogs = s.frogs :=
  (congrArg State.frogs (besideNotices_raiseSection s i) :)

theorem frogs_enterTesting (i : SectionIx) (s : State) : (enterTesting i s).frogs = s.frogs := by
  rw [enterTesting, frogs_raiseSection, frogs_registerFor, frogs_editSect]

theorem frogs_grantUnit (v : UnitIx) (s : State) : (grantUnit v s).frogs = s.frogs := by
  obtain ⟨h, -⟩ | ⟨j, -, -, h⟩ := grantUnit_cases v s
  · rw [h]
  · rw [h, frogs_enterTesting]
    rfl

theorem frogs_leaveTest (i : SectionIx) (x : Sect) (o : TestOutcome) (s : State) : (leaveTest i x o s).frogs = s.frogs := by
  unfold leaveTest
  split
  · rfl
  · unfold releaseUnit
    split
    · exact frogs_grantUnit ..
    · rfl
  · rfl

/-! ## An event that takes a section from one record to another -/

/-- Section `i`, which was `x` in `s`, is `y` in `t` by an event whose own part has left the order list `l` and told `q`; a unit it
has left has gone to the next section (R42, R51, R55 to R57, R63). -/
structure Left (i : SectionIx) (x y : Sect) (o : TestOutcome) (l : List Order) (q s t : State) : Prop where
  own : t.sect i = some y
  departed : Departed i x o l s t
  orders : OrdersLeft i x l s t
  told : ToldLeft i x q s t

/-- The same, seen from a state that agrees on the other sections, the units and part time. -/
theorem Left.congr {s' q' : State} (h : Left i x y o l q' s' t) (hs : ∀ j, j ≠ i → s'.sect j = s.sect j)
    (hu : s'.units = s.units) (hp : s'.partTime = s.partTime) (hq : Told q' q) : Left i x y o l q s t :=
  ⟨h.own, h.departed.congr hs hu hp rfl rfl, h.orders.congr hs hu rfl, h.told.congr hu hq⟩

/-- The same, where the section's record had first been edited otherwise than in its state and parameters. -/
theorem Left.edited {x' : Sect} (h : Left i x' y o l q (s.putSect i (some x')) t) (hs : x'.state = x.state)
    (hp : x'.params = x.params) : Left i x y o l q s t := by
  have hkept : Left i x y o l q (s.putSect i (some x')) t := by
    obtain ⟨hown, ⟨hunits, hquiet, hwithdrawn, hfreed, hgranted⟩, ⟨hlisted, hlist⟩, ⟨hnoted, hnotes⟩⟩ := h
    simp only [hs, hp] at hunits hquiet hwithdrawn hfreed hgranted hlisted hlist hnoted hnotes
    exact ⟨hown, ⟨hunits, hquiet, hwithdrawn, hfreed, hgranted⟩, ⟨hlisted, hlist⟩, ⟨hnoted, hnotes⟩⟩
  exact hkept.congr (fun j hj => by simp [State.sect_putSect, hj]) rfl rfl (Told.refl q)

/-- A section that has left TESTING, or has never been there, has its unit, the others and the notices as the statements say. -/
theorem Left.others (h : Left i x y o l q s t) (hr : s.activity = .running) (hu : UnitsOk s) (hx : s.sect i = some x)
    (hy : y.state ≠ .energizing .testing) : othersKept i l s t :=
  h.departed.othersKept h.orders hr hu hx h.own hy

theorem Left.unitsAfter (h : Left i x y o l q s t) (hr : s.activity = .running) (hu : UnitsOk s) (hx : s.sect i = some x)
    (hy : y.state ≠ .energizing .testing) (hw : y.state ≠ .energizing .testWait) : unitsAfter i o s t :=
  h.departed.unitsAfter hr hu hx fun z hz => by
    rw [h.own] at hz
    cases hz
    exact ⟨hy, hw⟩

theorem Left.toldThen (h : Left i x y o l q s t) (hr : s.activity = .running) (hu : UnitsOk s) (hx : s.sect i = some x)
    (hy : y.state ≠ .energizing .testing) : toldThen i q s t := by
  have hgranted : ∀ j, granted i s t j ↔ x.state = .energizing .testing ∧
      firstFrom (s.unit x.params.testUnit).pointer (s.unit x.params.testUnit).waiting j := fun j => by
    constructor
    · rintro ⟨x', y', hx', hy', ht, -, hf⟩
      rw [hx] at hx'
      cases hx'
      exact ⟨ht, hf⟩
    · rintro ⟨ht, hf⟩
      exact ⟨x, y, hx, h.own, ht, hy, hf⟩
  refine ⟨fun j z hj hz => ?_, fun hno => ?_⟩
  · obtain ⟨ht, hf⟩ := (hgranted j).mp hj
    obtain ⟨hholder, hwaits⟩ := (hu hr x.params.testUnit).testing hx ht
    have htold := h.told.granted j z ht hholder hf hz fun e => hwaits (e ▸ hf.1)
    exact ⟨htold.notices, htold.lost⟩
  · have htold := h.told.kept fun ht => by
      cases hf : firstWaiting (s.unit x.params.testUnit).pointer (s.unit x.params.testUnit).waiting with
      | none => exact firstWaiting_none hf
      | some k => exact absurd ((hgranted k).mpr ⟨ht, firstWaiting_iff.mp hf⟩) (hno k)
    exact ⟨htold.notices, htold.lost⟩

/-! ## The section's own part of an entry -/

/-- The record of a section `x` that enters `st`, the order list being `l` (R28, R49). -/
def Sect.arrived (now : Time) (l : List Order) (st : SectionState) (x : Sect) : Sect :=
  { x.entered now st with wait := (entryAsked l x.params.feederAddr st).2 }

/-- Section `i` has done its own part of an entry: it is `y`, its order registered, its notices told. -/
structure Arrived (i : SectionIx) (y : Sect) (l : List Order) (q s u : State) : Prop where
  own : u.sect i = some y
  others : ∀ j, j ≠ i → u.sect j = s.sect j
  units : u.units = s.units
  orders : u.orders = l
  partTime : u.partTime = s.partTime
  told : Told q u

/-- What the test unit does then (R55 to R57). -/
theorem Arrived.left (h : Arrived i y l q s u) (o : TestOutcome)
    (hw : x.state = .energizing .testing → i ∉ (s.unit x.params.testUnit).waiting) :
    Left i x y o l q s (leaveTest i x o u) := by
  have hunit : ∀ v, u.unit v = s.unit v := unit_congr h.units
  refine ⟨?_, ?_, ?_, ?_⟩
  · rw [leaveTest_sect o u (by rwa [hunit]), h.own]
  · rw [← h.orders]
    exact (leaveTest_departed i x o u).congr h.others h.units h.partTime rfl rfl
  · rw [← h.orders]
    exact (leaveTest_ordersLeft i x o u).congr h.others h.units rfl
  · exact (leaveTest_toldLeft i x o u).congr h.units h.told.symm

/-- The section's own part of an entry: its record and its order, then its notices. -/
def enteredState (i : SectionIx) (x : Sect) (st : SectionState) (fl : Option SectionFlag) (s : State) : State :=
  announced i x st fl (x.arrived s.partTime s.orders st)
    ((s.setOrders (entryAsked s.orders x.params.feederAddr st).1).putSect i (some (x.arrived s.partTime s.orders st)))

theorem enterState_eq (o : TestOutcome) (hx : s.sect i = some x) : enterState i st fl o s
    = if Config.grantBeforeHeads then checkIfPowerChanged i (s.powered i) (leaveTest i x o (enteredState i x st fl s))
      else leaveTest i x o (checkIfPowerChanged i (s.powered i) (enteredState i x st fl s)) := by
  have hasked : registerEntry i st (s.putSect i (some (x.entered s.partTime st)))
      = (s.setOrders (entryAsked s.orders x.params.feederAddr st).1).putSect i
        (some (x.arrived s.partTime s.orders st)) := by
    unfold registerEntry Sect.arrived entryAsked
    cases entryOrder st with
    | none => rfl
    | some k => exact registerFor_putSect i k (x.entered s.partTime st) s
  have hown : enteredState i x st fl s = raiseFlagSet i fl (raiseSupplyCleared i x st
      (raiseSection i (registerEntry i st (s.putSect i (some (x.entered s.partTime st)))))) := by
    rw [hasked, raiseSection_eq (State.sect_putSect_same ..)]
    rfl
  unfold enterState
  rw [hx, hown]

theorem enteredState_beside (i : SectionIx) (x : Sect) (st : SectionState) (fl : Option SectionFlag) (s : State) :
    (enteredState i x st fl s).besideNotices = ((s.setOrders (entryAsked s.orders x.params.feederAddr st).1).putSect i
      (some (x.arrived s.partTime s.orders st))).besideNotices := besideNotices_announced

theorem enteredState_arrived (i : SectionIx) (x : Sect) (st : SectionState) (fl : Option SectionFlag) (s : State) :
    Arrived i (x.arrived s.partTime s.orders st) (entryAsked s.orders x.params.feederAddr st).1
      (announced i x st fl (x.arrived s.partTime s.orders st) s) s (enteredState i x st fl s) := by
  have hbeside := enteredState_beside i x st fl s
  have hsect : ∀ j, (enteredState i x st fl s).sect j = ((s.setOrders (entryAsked s.orders x.params.feederAddr st).1).putSect i
      (some (x.arrived s.partTime s.orders st))).sect j := sect_congr (congrArg State.sections hbeside :)
  refine ⟨?_, fun j hj => ?_, (congrArg State.units hbeside :), (congrArg State.orders hbeside :),
    (congrArg State.partTime hbeside :), Told.announced ⟨rfl, rfl, rfl⟩⟩
  · rw [hsect, State.sect_putSect_same]
  · rw [hsect, State.sect_putSect, if_neg hj, State.sect_setOrders]

theorem enteredState_frogs (i : SectionIx) (x : Sect) (st : SectionState) (fl : Option SectionFlag) (s : State) :
    (enteredState i x st fl s).frogs = s.frogs := (congrArg State.frogs (enteredState_beside i x st fl s) :)

/-! ## The power of a section (R25) -/

/-- The section is LIVE with SUPPLY_LOST clear (R25). -/
def Sect.powered (x : Sect) : Bool := decide (x.state = .live) && !x.prot.supplyLost

theorem powered_of_sect (h : s.sect i = some x) : s.powered i = x.powered := by
  unfold State.powered
  rw [h]
  rfl

theorem checkIfPowerChanged_same {b : Bool} (h : s.powered i = b) : checkIfPowerChanged i b s = s := if_pos h

/-- The heads of section `i`'s frogs checked, the section without power (R25, R93): `t` but for the frogs is `s`. -/
theorem waitsWithdrawn_of_unpowered {v : Vector (Option Frog) 64} (h : ∀ k, v.get k = (s.frog k).map (Frog.unpowered i)) :
    waitsWithdrawn i s (s.setFrogs v) := h

theorem Left.setFrogs (h : Left i x y o l q s t) (v : Vector (Option Frog) 64) : Left i x y o l q s (t.setFrogs v) :=
  ⟨h.own, h.departed.congr (fun _ _ => rfl) rfl rfl rfl rfl, h.orders.congr (fun _ _ => rfl) rfl rfl,
    ⟨fun j z a b c d e => (h.told.granted j z a b c d e).trans ⟨rfl, rfl, rfl⟩,
      fun a => (h.told.kept a).trans ⟨rfl, rfl, rfl⟩⟩⟩

theorem Arrived.setFrogs (h : Arrived i y l q s u) (v : Vector (Option Frog) 64) : Arrived i y l q s (u.setFrogs v) :=
  ⟨h.own, h.others, h.units, h.orders, h.partTime, h.told.trans ⟨rfl, rfl, rfl⟩⟩

/-- An event of section `i` by which it does not gain power: the frogs it powers lose their registration waits with the power,
and otherwise stay (R25, R93). -/
structure Entry (i : SectionIx) (x y : Sect) (o : TestOutcome) (l : List Order) (q s t : State) : Prop where
  left : Left i x y o l q s t
  frogs : y.powered = x.powered → t.frogs = s.frogs
  heads : y.powered = false → x.powered = true → waitsWithdrawn i s t

/-- Entry to a state by which the section does not gain power: the test unit and the frogs do not hinder each other (R25, R55 to
R57; log entry 11). -/
theorem enterState_entry (st : SectionState) (fl : Option SectionFlag) (o : TestOutcome) (hx : s.sect i = some x)
    (hw : x.state = .energizing .testing → i ∉ (s.unit x.params.testUnit).waiting)
    (hp : (x.arrived s.partTime s.orders st).powered = true → x.powered = true) :
    Entry i x (x.arrived s.partTime s.orders st) o (entryAsked s.orders x.params.feederAddr st).1
      (announced i x st fl (x.arrived s.partTime s.orders st) s) s (enterState i st fl o s) := by
  have harrived := enteredState_arrived i x st fl s
  have hfrogs := enteredState_frogs i x st fl s
  have hleft := harrived.left (x := x) o hw
  have hbefore : s.powered i = x.powered := powered_of_sect hx
  rw [enterState_eq o hx, hbefore]
  by_cases hsame : (x.arrived s.partTime s.orders st).powered = x.powered
  · have hcheck : ∀ t, t.sect i = some (x.arrived s.partTime s.orders st) → checkIfPowerChanged i x.powered t = t :=
      fun t ht => checkIfPowerChanged_same ((powered_of_sect ht).trans hsame)
    rw [hcheck _ harrived.own, hcheck _ hleft.own, ite_self]
    exact ⟨hleft, fun _ => (frogs_leaveTest ..).trans hfrogs, fun h h' => absurd (hsame.symm.trans h) (by simp [h'])⟩
  · have hoff : (x.arrived s.partTime s.orders st).powered = false := by
      cases h : (x.arrived s.partTime s.orders st).powered with
      | false => rfl
      | true => exact absurd (h.trans (hp h).symm) hsame
    have hon : x.powered = true := by
      cases h : x.powered with
      | true => rfl
      | false => exact absurd (hoff.trans h.symm) hsame
    rw [hon]
    refine ⟨?_, fun h => absurd (h.trans hon) (by simp [hoff]), fun _ _ f => ?_⟩
    · split
      · obtain ⟨v, hv, -⟩ := checkIfPowerChanged_unpowered ((powered_of_sect hleft.own).trans hoff) true
        rw [hv]
        exact hleft.setFrogs v
      · obtain ⟨v, hv, -⟩ := checkIfPowerChanged_unpowered ((powered_of_sect harrived.own).trans hoff) true
        rw [hv]
        exact (harrived.setFrogs v).left o hw
    · split
      · obtain ⟨v, hv, -, hk⟩ := checkIfPowerChanged_unpowered ((powered_of_sect hleft.own).trans hoff) true
        rw [hv]
        exact (hk rfl f).trans (by rw [frog_congr ((frogs_leaveTest ..).trans hfrogs)]; rfl)
      · obtain ⟨v, hv, -, hk⟩ := checkIfPowerChanged_unpowered ((powered_of_sect harrived.own).trans hoff) true
        rw [hv, frog_congr (frogs_leaveTest ..)]
        exact (hk rfl f).trans (by rw [frog_congr hfrogs]; rfl)

end Sys2Proof.Machine
end

section
/-!
PROOFS. Lock-outs, failed attempts and attempts as whole events, and the statements on a section's timers, its test result and the
dispatcher's requests (R36 to R45, R47, R54 to R57, R60 to R63). The statements settled stand at the end.
-/

namespace Sys2Proof.Machine

variable {s t u q : State} {i : SectionIx} {x y : Sect} {o : TestOutcome} {l : List Order} {st : SectionState}
  {fl : Option SectionFlag}

/-! ## Entry by a record that was edited first -/

theorem Entry.edited {x' : Sect} (h : Entry i x' y o l q (s.putSect i (some x')) t) (hs : x'.state = x.state)
    (hp : x'.params = x.params) (hw : x'.powered = x.powered) : Entry i x y o l q s t :=
  ⟨h.left.edited hs hp, fun hy => h.frogs (hy.trans hw.symm), fun hy hx => h.heads hy (hw.trans hx)⟩

theorem Entry.told {q' : State} (h : Entry i x y o l q' s t) (hq : Told q' q) : Entry i x y o l q s t :=
  ⟨h.left.congr (fun _ _ => rfl) rfl rfl hq, h.frogs, h.heads⟩

theorem editSect_eq (hx : s.sect i = some x) (g : Sect → Sect) : s.editSect i g = s.putSect i (some (g x)) := by
  unfold State.editSect
  rw [hx]

/-- Entry by a record edited otherwise than in its state, its parameters and its power, where the section does not gain power. -/
theorem enterState_entry_record {x' : Sect} (st : SectionState) (fl : Option SectionFlag) (o : TestOutcome)
    (hs : x'.state = x.state) (hp : x'.params = x.params) (hpow : x'.powered = x.powered)
    (hw : x.state = .energizing .testing → i ∉ (s.unit x.params.testUnit).waiting)
    (hno : (x'.arrived s.partTime s.orders st).powered = true → x.powered = true) :
    Entry i x (x'.arrived s.partTime s.orders st) o (entryAsked s.orders x.params.feederAddr st).1
      (announced i x' st fl (x'.arrived s.partTime s.orders st) s) s (enterState i st fl o (s.putSect i (some x'))) := by
  have h := enterState_entry (s := s.putSect i (some x')) st fl o (State.sect_putSect_same ..)
    (by rw [hs, hp]; exact hw) (fun h => hpow.trans (hno h))
  rw [hp] at h
  exact (h.edited hs hp hpow).told (Told.announced ⟨rfl, rfl, rfl⟩)

/-- Such an entry to a state other than LIVE gains no power. -/
theorem enterState_entry_edited {x' : Sect} (hst : st ≠ .live) (fl : Option SectionFlag) (o : TestOutcome)
    (hs : x'.state = x.state) (hp : x'.params = x.params) (hpow : x'.powered = x.powered)
    (hw : x.state = .energizing .testing → i ∉ (s.unit x.params.testUnit).waiting) :
    Entry i x (x'.arrived s.partTime s.orders st) o (entryAsked s.orders x.params.feederAddr st).1
      (announced i x' st fl (x'.arrived s.partTime s.orders st) s) s (enterState i st fl o (s.putSect i (some x'))) :=
  enterState_entry_record st fl o hs hp hpow hw
    fun h => absurd h (by simp [Sect.powered, Sect.arrived, Sect.entered, hst])

/-- What entry to a state other than LIVE with no flag of its own tells (R24, R51). -/
theorem announced_flagless (hst : st ≠ .live) : announced i x st none y s
    = if x.state = .live ∧ x.prot.supplyLost = true then raise (.sectionFlag i .supplyLost false) (stateTold i y s)
      else stateTold i y s := by
  simp only [announced, raiseFlagSet, raiseSupplyCleared, ne_eq, hst, not_false_eq_true, true_and]

/-- The record of a section `x` after a lock-out (R45). -/
def Sect.lockedFor (r : LockReason) (x : Sect) : Sect :=
  { x with
    state := .lockedOut, lockReason := some r, timer := .stopped, wait := none
    prot := if x.state = .live then x.prot.leftLive else x.prot }

theorem lockOut_entry (r : LockReason) (fl : Option SectionFlag) (o : TestOutcome) (hx : s.sect i = some x)
    (hw : x.state = .energizing .testing → i ∉ (s.unit x.params.testUnit).waiting) :
    Entry i x (x.lockedFor r) o s.orders (announced i x .lockedOut fl (x.lockedFor r) s) s (lockOut i r fl o s) := by
  have h := enterState_entry_edited (x := x) (x' := { x with lockReason := some r }) (st := .lockedOut) nofun fl o rfl rfl rfl hw
  have hy : Sect.arrived s.partTime s.orders .lockedOut { x with lockReason := some r } = x.lockedFor r := by
    simp only [Sect.arrived, Sect.entered, Sect.lockedFor, entryTimer, ne_eq, reduceCtorEq, not_false_eq_true, and_true]
    rfl
  rw [hy] at h
  unfold lockOut
  rw [editSect_eq hx]
  exact h

/-- The record of a section `x` after a failed attempt (R45). -/
def Sect.failedFor (c : LockReason) (now : Time) (x : Sect) : Sect :=
  { x with
    state := (afterFailure c x).1, lockReason := (afterFailure c x).2, wait := none
    timer := restingTimer now (afterFailure c x).1 x.params }

theorem failedFor_auto {c : LockReason} {now : Time} (ho : x.origin = some .auto) (ha : x.attempts < x.params.recloseMax) :
    x.failedFor c now = { x with state := .deadWait, wait := none, timer := Timer.start now x.params.recloseDead } := by
  simp only [Sect.failedFor, afterFailure, ho, ha, if_true, restingTimer, Timer.start]

theorem failedFor_locked {c : LockReason} {now : Time} (hl : x.state ≠ .live) {r : LockReason}
    (h : afterFailure c x = (.lockedOut, some r)) : x.failedFor c now = x.lockedFor r := by
  simp only [Sect.failedFor, h, Sect.lockedFor, restingTimer, hl, if_false]

/-- A failed attempt is a lock-out, or goes back to DEAD_WAIT (R45). -/
theorem failAttempt_cases (c : LockReason) (fl : Option SectionFlag) (o : TestOutcome) (hx : s.sect i = some x) :
    (x.origin = some .auto ∧ x.attempts < x.params.recloseMax ∧ failAttempt i c fl o s = enterState i .deadWait fl o s) ∨
    ∃ r, afterFailure c x = (.lockedOut, some r) ∧ failAttempt i c fl o s = lockOut i r fl o s := by
  unfold failAttempt afterFailure
  rw [hx]
  dsimp only
  by_cases ho : x.origin = some .auto
  · by_cases ha : x.attempts < x.params.recloseMax
    · exact .inl ⟨ho, ha, by rw [ho]; exact if_pos ha⟩
    · exact .inr ⟨.exhausted, by rw [if_pos ho, if_neg ha], by rw [ho]; exact if_neg ha⟩
  · refine .inr ⟨c, if_neg ho, ?_⟩
    split
    next h => exact absurd h ho
    next => rfl

theorem failAttempt_entry (c : LockReason) (fl : Option SectionFlag) (o : TestOutcome) (hx : s.sect i = some x)
    (hl : x.state ≠ .live) (hw : x.state = .energizing .testing → i ∉ (s.unit x.params.testUnit).waiting) :
    Entry i x (x.failedFor c s.partTime) o s.orders (raiseFlagSet i fl (stateTold i (x.failedFor c s.partTime) s)) s
      (failAttempt i c fl o s) := by
  rw [← announced_notLive (st := .deadWait) hl]
  obtain ⟨ho, ha, h⟩ | ⟨r, hr, h⟩ := failAttempt_cases c fl o hx
  · have hentry := enterState_entry .deadWait fl o hx hw
      (fun h => absurd h (by simp [Sect.powered, Sect.arrived, Sect.entered]))
    have hy : x.arrived s.partTime s.orders .deadWait = x.failedFor c s.partTime := by
      rw [failedFor_auto ho ha]
      simp only [Sect.arrived, Sect.entered, entryTimer, hl, false_and, if_false]
      rfl
    rw [h, ← hy]
    exact hentry
  · rw [h, failedFor_locked hl hr, announced_notLive hl, ← announced_notLive (st := .lockedOut) hl]
    exact lockOut_entry r fl o hx hw

/-! ## Events that concern no test unit and no power, whole -/

/-- Entry to a state where no test unit is left and the power does not change. -/
theorem enterState_quiet (o : TestOutcome) (hx : s.sect i = some x) (hl : x.state ≠ .live) (hst : st ≠ .live)
    (hw : x.state ≠ .energizing .testWait) (ht : x.state ≠ .energizing .testing) :
    enterState i st fl o s = enteredState i x st fl s := by
  have harrived := enteredState_arrived i x st fl s
  have hcheck : checkIfPowerChanged i (s.powered i) (enteredState i x st fl s) = enteredState i x st fl s := by
    refine checkIfPowerChanged_same ?_
    rw [powered_of_sect harrived.own, powered_of_sect hx]
    simp [Sect.powered, Sect.arrived, Sect.entered, hl, hst]
  rw [enterState_eq o hx, leaveTest_none o _ hw ht, hcheck, leaveTest_none o _ hw ht, ite_self]

theorem lockOut_quiet (r : LockReason) (o : TestOutcome) (hx : s.sect i = some x) (hl : x.state ≠ .live)
    (hw : x.state ≠ .energizing .testWait) (ht : x.state ≠ .energizing .testing) :
    lockOut i r none o s = stateTold i (x.lockedFor r) (s.putSect i (some (x.lockedFor r))) := by
  have hy : Sect.arrived s.partTime s.orders .lockedOut { x with lockReason := some r } = x.lockedFor r := by
    simp only [Sect.arrived, Sect.entered, Sect.lockedFor, entryTimer, hl, false_and, if_false]
    rfl
  unfold lockOut
  rw [editSect_eq hx, enterState_quiet (x := { x with lockReason := some r }) (st := .lockedOut) o
    (State.sect_putSect_same ..) hl nofun hw ht]
  unfold enteredState
  rw [announced_notLive (x := { x with lockReason := some r }) hl]
  dsimp only [State.putSect_partTime, State.putSect_orders]
  rw [hy, show ∀ l y, ((s.putSect i (some { x with lockReason := some r })).setOrders l).putSect i y = (s.setOrders l).putSect i y
    from fun l y => putSect_putSect i _ y (s.setOrders l)]
  rfl

theorem failAttempt_quiet (c : LockReason) (o : TestOutcome) (hx : s.sect i = some x) (hl : x.state ≠ .live)
    (hw : x.state ≠ .energizing .testWait) (ht : x.state ≠ .energizing .testing) : failAttempt i c none o s
    = stateTold i (x.failedFor c s.partTime) (s.putSect i (some (x.failedFor c s.partTime))) := by
  obtain ⟨ho, ha, h⟩ | ⟨r, hr, h⟩ := failAttempt_cases c none o hx
  · have hy : x.arrived s.partTime s.orders .deadWait = x.failedFor c s.partTime := by
      rw [failedFor_auto ho ha]
      simp only [Sect.arrived, Sect.entered, entryTimer, hl, false_and, if_false]
      rfl
    rw [h, enterState_quiet (st := .deadWait) o hx hl nofun hw ht, enteredState, announced_notLive hl, hy]
    rfl
  · rw [h, lockOut_quiet r o hx hl hw ht, failedFor_locked hl hr]

end Sys2Proof.Machine
end

section
/-!
PROOFS. The silence timer, the test result, the isolate request and the state timers of a section (R21, R36 to R38, R42 to R45, R51,
R55 to R57, R60 to R63). The statements settled stand at the end.
-/

namespace Sys2Proof.Machine

variable {s t u q : State} {i : SectionIx} {x y : Sect} {o : TestOutcome} {l : List Order} {st : SectionState}
  {fl : Option SectionFlag}

/-! ## What the statements ask of an event -/

theorem told_putSect (i : SectionIx) (z : Option Sect) (s : State) : Told (s.putSect i z) s := ⟨rfl, rfl, rfl⟩

/-- With the test units in order a section in TESTING does not wait on the unit it holds (R54, R55). -/
theorem notWaiting (hr : s.activity = .running) (hu : UnitsOk s) (hx : s.sect i = some x)
    (ht : x.state = .energizing .testing) : i ∉ (s.unit x.params.testUnit).waiting :=
  ((hu hr _).testing hx ht).2

theorem powered_of_ne_live (h : x.state ≠ .live) : x.powered = false := by simp [Sect.powered, h]

theorem afterFailure_state (c : LockReason) (x : Sect) :
    (afterFailure c x).1 = .deadWait ∨ (afterFailure c x).1 = .lockedOut := by
  unfold afterFailure
  split_ifs
  · exact .inl rfl
  · exact .inr rfl
  · exact .inr rfl

theorem failedFor_state_ne (c : LockReason) (now : Time) (x : Sect) (sub : Substate) :
    (x.failedFor c now).state ≠ .energizing sub ∧ (x.failedFor c now).state ≠ .live := by
  obtain h | h := afterFailure_state c x <;> exact ⟨by simp [Sect.failedFor, h], by simp [Sect.failedFor, h]⟩

/-- A failed attempt, as the statements say it (R45, R51, R55 to R57). -/
theorem failAttempt_said (c : LockReason) (fl : Option SectionFlag) (o : TestOutcome) (hr : s.activity = .running)
    (hu : UnitsOk s) (hx : s.sect i = some x) (hl : x.state ≠ .live) :
    (failAttempt i c fl o s).sect i = some (x.failedFor c s.partTime) ∧
    othersKept i s.orders s (failAttempt i c fl o s) ∧ unitsAfter i o s (failAttempt i c fl o s) ∧
    toldThen i (raiseFlagSet i fl (stateTold i (x.failedFor c s.partTime) s)) s (failAttempt i c fl o s) ∧
    (failAttempt i c fl o s).frogs = s.frogs := by
  have h := failAttempt_entry c fl o hx hl (notWaiting hr hu hx)
  have hne := failedFor_state_ne c s.partTime x
  exact ⟨h.left.own, h.left.others hr hu hx (hne _).1, h.left.unitsAfter hr hu hx (hne _).1 (hne _).1,
    h.left.toldThen hr hu hx (hne _).1, h.frogs ((powered_of_ne_live (hne .cooling).2).trans (powered_of_ne_live hl).symm)⟩

/-! ## The silence timer (R21, R44) -/

/-- The record of a section at the expiry of its silence timer (R21). -/
def Sect.silenced (x : Sect) : Sect :=
  { x with prot := { x.prot with blind := true, synced := false, window := none, lowRun := none, silence := .stopped } }

/-- The flag that the expiry sets (R21, R51). -/
def blindFlag (x : Sect) : Option SectionFlag := if x.prot.blind then none else some .blind

theorem raiseFlagSet_blindFlag : raiseFlagSet i (blindFlag x) s
    = if x.prot.blind then s else raise (.sectionFlag i .blind true) s := by
  unfold blindFlag
  split <;> rfl

section
variable (hx : s.sect i = some x)
include hx

theorem silenceExpires_notDue (h : x.prot.silence.expired s.partTime = false) : silenceExpires i s = s := by
  unfold silenceExpires
  rw [hx]
  exact if_neg (by simp [h])

variable (h : x.prot.silence.expired s.partTime = true)
include h

theorem silenceExpires_rest (hr : ∀ sub, x.state ≠ .energizing sub) :
    silenceExpires i s = raiseFlagSet i (blindFlag x) (s.putSect i (some x.silenced)) := by
  unfold silenceExpires
  rw [hx]
  dsimp only
  rw [if_pos h]
  split
  next sub hs => exact absurd hs (hr sub)
  next => rfl

theorem silenceExpires_attempt {sub : Substate} (hs : x.state = .energizing sub) :
    silenceExpires i s = failAttempt i .blind (blindFlag x) .abandoned (s.putSect i (some x.silenced)) := by
  unfold silenceExpires
  rw [hx]
  dsimp only
  rw [if_pos h]
  split
  next => rfl
  next hr => exact absurd hs (hr sub)

end

/-! ## The test result (R60 to R62) -/

/-- A TEST_RESULT that qualifies is taken and left to the filter (R59, R146). -/
theorem exec_testResultFrame {dest src : LineAddr} {seq hi lo : Byte} (hs : s.supervising) (hsrc : src ≠ 0x0000)
    (hi' : s.sectAt src = some i) : exec (.testResultFrame dest src seq [hi, lo]) s
      = .next (fileFrame .field (makeFrame dest src 0x13 seq [hi, lo]) (takeResult i (hi ++ lo) s)) := by
  have hproc : processField (makeFrame dest src 0x13 seq [hi, lo]) s = takeResult i (hi ++ lo) s := by
    simp [processField, makeFrame, kindSample, kindBreaker, kindTestResult, hi', parseTestResult, word]
  exact congrArg Host.Outcome.next
    ((arriveFrame_field hs (makeFrame dest src 0x13 seq [hi, lo])
      (show (0x13 : Byte) ≠ kindMgmt by decide) hsrc (show 2 ≤ 120 by decide)).trans (by rw [hproc]))

theorem takeResult_pass {r : BitVec 16} (hx : s.sect i = some x) (ht : x.state = .energizing .testing)
    (hr : x.params.rMin ≤ r.toNat) : takeResult i r s = enterState i (.energizing .closing) none (.pass r) s := by
  unfold takeResult
  rw [hx]
  dsimp only
  rw [if_pos ht, if_pos hr]

theorem takeResult_fail {r : BitVec 16} (hx : s.sect i = some x) (ht : x.state = .energizing .testing)
    (hr : r.toNat < x.params.rMin) : takeResult i r s = failAttempt i .testFail none (.fail r) s := by
  unfold takeResult
  rw [hx]
  dsimp only
  rw [if_pos ht, if_neg (Nat.not_le.mpr hr)]

/-! ## The isolate request (R37) -/

/-- The state to which an isolate request takes a section that is not idle (R37). -/
def isolateTo (x : Sect) : SectionState :=
  if x.lastReport = some .opened ∧ x.state ≠ .energizing .testing ∧ x.state ≠ .energizing .closing then .isolated
  else .isolating

theorem isolateTo_isolated
    (h : x.lastReport = some .opened ∧ x.state ≠ .energizing .testing ∧ x.state ≠ .energizing .closing) :
    isolateTo x = .isolated := if_pos h

theorem isolateTo_isolating
    (h : x.lastReport ≠ some .opened ∨ x.state = .energizing .testing ∨ x.state = .energizing .closing) :
    isolateTo x = .isolating := if_neg (by tauto)

section
variable {k : OrderKind} (hx : s.sect i = some x)
include hx

theorem isolateRequest_unknown (h : x.state = .unknown) :
    isolateRequest i k s = raise (.orderRefused x.params.feederAddr k.code .state) s := by
  unfold isolateRequest
  rw [hx]
  dsimp only
  rw [h]

theorem isolateRequest_idle (h : x.state = .isolating ∨ x.state = .isolated) : isolateRequest i k s = s := by
  unfold isolateRequest
  rw [hx]
  obtain h | h := h <;> (dsimp only; rw [h])

theorem isolateRequest_tripping (h : x.state = .tripping) :
    isolateRequest i k s = s.putSect i (some { x with isolateOnOpen := true }) := by
  unfold isolateRequest
  rw [hx]
  dsimp only
  rw [h]

theorem isolateRequest_enters
    (h : x.state = .live ∨ x.state = .deadWait ∨ x.state = .lockedOut ∨ ∃ sub, x.state = .energizing sub) :
    isolateRequest i k s = enterState i (isolateTo x) none .abandoned s := by
  unfold isolateRequest isolateTo
  rw [hx]
  obtain h | h | h | ⟨sub, h⟩ := h
  · simp [h]
  · simp [h]
  · simp [h]
  · cases sub <;> simp [h]

end

/-- An ORDER of kind TRIP or OPEN to a feeder is an isolate request (R37, R147). -/
theorem interceptSection_isolate {code : Byte} (hx : s.sect i = some x) (hc : code = 0x01 ∨ code = 0x02) :
    ∃ k : OrderKind, k.code = code ∧ interceptSection i [code] s = isolateRequest i k s := by
  unfold interceptSection
  rw [hx]
  obtain rfl | rfl := hc
  · exact ⟨.trip, rfl, rfl⟩
  · exact ⟨.opening, rfl, rfl⟩

/-! ## The state timers (R36, R38, R43, R61) -/

section
variable (hx : s.sect i = some x)
include hx

theorem openExpiry_notDue (h : x.timer.expired s.partTime = false ∨ (x.state ≠ .tripping ∧ x.state ≠ .isolating)) :
    openExpiry i s = s := by
  unfold openExpiry
  rw [hx]
  exact if_neg (by rcases h with h | ⟨h, h'⟩ <;> simp_all)

theorem closeExpiry_notDue (h : x.timer.expired s.partTime = false ∨ x.state ≠ .energizing .closing) :
    closeExpiry i s = s := by
  unfold closeExpiry
  rw [hx]
  exact if_neg (by rcases h with h | h <;> simp [h])

theorem testExpiry_notDue (h : x.timer.expired s.partTime = false ∨ x.state ≠ .energizing .testing) :
    testExpiry i s = s := by
  unfold testExpiry
  rw [hx]
  exact if_neg (by rcases h with h | h <;> simp [h])

variable (h : x.timer.expired s.partTime = true)
include h

theorem openExpiry_due (hs : x.state = .tripping ∨ x.state = .isolating) : openExpiry i s
    = lockOut i .breakerFail none .abandoned (s.putSect i (some { x with isolateOnOpen := false })) := by
  unfold openExpiry
  rw [hx]
  dsimp only
  rw [if_pos (by rcases hs with hs | hs <;> simp [h, hs]), editSect_eq hx]

theorem closeExpiry_due (hs : x.state = .energizing .closing) :
    closeExpiry i s = failAttempt i .closeFail none .abandoned s := by
  unfold closeExpiry
  rw [hx]
  exact if_pos (by simp [h, hs])

theorem testExpiry_due (hs : x.state = .energizing .testing) :
    testExpiry i s = failAttempt i .testFail none .timeout s := by
  unfold testExpiry
  rw [hx]
  exact if_pos (by simp [h, hs])

end

/-! ## The statements settled -/

/-- Settles O25: the record at the expiry, and the failure of an attempt in progress on it. -/
theorem silenceTimerExpiry : Obligations.SilenceTimerExpiry := by
  intro s i x hr hu hx
  refine ⟨fun h => congrArg Host.Outcome.next (silenceExpires_notDue hx h), fun h => ?_⟩
  intro p
  refine ⟨fun hrest => ?_, fun sub hs => ?_⟩
  · exact congrArg Host.Outcome.next ((silenceExpires_rest hx h hrest).trans raiseFlagSet_blindFlag)
  · have hl : x.state ≠ .live := by simp [hs]
    have hentry : Entry i x (x.silenced.failedFor .blind s.partTime) .abandoned s.orders _ s _ :=
      (failAttempt_entry .blind (blindFlag x) .abandoned (s := s.putSect i (some x.silenced))
        (State.sect_putSect_same ..) hl (notWaiting (s := s) (x := x) hr hu hx)).edited (x := x) rfl rfl rfl
    have hleft := hentry.left
    have hne := failedFor_state_ne .blind s.partTime x.silenced
    have hoff := powered_of_ne_live (hne sub).2
    have hq : Told (raiseFlagSet i (blindFlag x) (stateTold i (x.silenced.failedFor .blind s.partTime)
        (s.putSect i (some x.silenced)))) (if x.prot.blind then stateTold i (x.silenced.failedFor .blind s.partTime) s
          else raise (.sectionFlag i .blind true) (stateTold i (x.silenced.failedFor .blind s.partTime) s)) := by
      rw [← raiseFlagSet_blindFlag]
      exact ((told_putSect i _ s).stateTold i _).raiseFlagSet i _
    refine ⟨_, x.silenced.failedFor .blind s.partTime, congrArg Host.Outcome.next (silenceExpires_attempt hx h hs), hleft.own,
      rfl, rfl, rfl, rfl, rfl, rfl, rfl, rfl, rfl, rfl, hleft.others hr hu hx (hne _).1,
      hleft.unitsAfter hr hu hx (hne _).1 (hne _).1, (hentry.told hq).left.toldThen hr hu hx (hne _).1,
      hentry.frogs (hoff.trans (powered_of_ne_live hl).symm), ?_, by simp⟩
    rw [powered_of_sect hleft.own, powered_of_sect hx, hoff, powered_of_ne_live hl]

/-- Settles O27: the entry to CLOSING, or the failed attempt. -/
theorem testResultInTesting : Obligations.TestResultInTesting := by
  intro s i x dest src seq hi lo hs hu hsrc hi' hx ht
  have hr := hs.1
  have hl : x.state ≠ .live := by simp [ht]
  have hrun := exec_testResultFrame (dest := dest) (seq := seq) (hi := hi) (lo := lo) hs hsrc hi'
  by_cases hpass : x.params.rMin ≤ (hi ++ lo : BitVec 16).toNat
  · have hentry := enterState_entry (.energizing .closing) none (.pass (hi ++ lo)) hx (notWaiting hr hu hx)
      (fun h => absurd h (by simp [Sect.powered, Sect.arrived, Sect.entered]))
    have hy : x.arrived s.partTime s.orders (.energizing .closing) = { x with
        state := .energizing .closing, timer := Timer.start s.partTime x.params.closeTimeout
        wait := (asked s.orders x.params.feederAddr .close).2 } := by
      simp only [Sect.arrived, Sect.entered, entryTimer, hl, false_and, if_false]
      rfl
    rw [hy, announced_notLive hl] at hentry
    have hleft := hentry.left
    refine ⟨_, _, by rw [hrun, takeResult_pass hx ht hpass], hleft.own, fun _ => ⟨rfl, rfl, rfl, rfl,
      hleft.others hr hu hx nofun, hleft.unitsAfter hr hu hx nofun nofun⟩, fun h => absurd hpass (Nat.not_le.mpr h), rfl, rfl,
      rfl, rfl, rfl, rfl, rfl, hleft.toldThen hr hu hx nofun, hentry.frogs ?_, by simp⟩
    rw [powered_of_ne_live hl]
    rfl
  · have hfail := Nat.not_le.mp hpass
    obtain ⟨hown, hothers, hunits, htold, hfrogs⟩ := failAttempt_said .testFail none (.fail (hi ++ lo)) hr hu hx hl
    exact ⟨_, _, by rw [hrun, takeResult_fail hx ht hfail], hown, fun h => absurd h hpass,
      fun _ => ⟨rfl, rfl, rfl, hothers, hunits⟩, rfl, rfl, rfl, rfl, rfl, rfl, rfl, htold, hfrogs, by simp⟩

/-- Settles O30: a request refused, without effect, remembered, and one that isolates. -/
theorem isolateRequestByState : Obligations.IsolateRequestByState := by
  intro s i x dest src seq code hs hu hsrc hi hx hc
  have hr := hs.1
  obtain ⟨k, hk, hrequest⟩ := interceptSection_isolate hx hc
  have hrun : exec (.orderInterceptSection dest src seq [code]) s = .next (isolateRequest i k s) := by
    rw [exec_orderInterceptSection hs hsrc (by simp) hi, hrequest]
  refine ⟨fun h => ?_, fun h => ?_, fun h => ?_, fun h => ?_⟩
  · rw [hrun, isolateRequest_unknown hx h, hk]
  · rw [hrun, isolateRequest_idle hx h]
  · rw [hrun, isolateRequest_tripping hx h]
  · have hto : isolateTo x = .isolated ∨ isolateTo x = .isolating := by
      unfold isolateTo
      split <;> simp
    have hne : ∀ sub, isolateTo x ≠ .energizing sub := fun sub => by rcases hto with h | h <;> simp [h]
    have hlive : isolateTo x ≠ .live := by rcases hto with h | h <;> simp [h]
    have hentry := enterState_entry (isolateTo x) none .abandoned hx (notWaiting hr hu hx)
      (fun h => absurd h (by simp [Sect.powered, Sect.arrived, Sect.entered, hlive]))
    rw [announced_flagless hlive] at hentry
    have hleft := hentry.left
    have hoff : (x.arrived s.partTime s.orders (isolateTo x)).powered = false := powered_of_ne_live hlive
    have hothers := hleft.others hr hu hx (hne _)
    refine ⟨_, _, by rw [hrun, isolateRequest_enters hx h], hleft.own, fun hc => ?_, fun hc => ?_, rfl, rfl, rfl, rfl, rfl, rfl,
      rfl, ?_, hleft.unitsAfter hr hu hx (hne _) (hne _), hleft.toldThen hr hu hx (hne _), fun hlv hsup => ?_,
      fun hor => ?_, by simp⟩
    · rw [isolateTo_isolated hc] at hothers ⊢
      exact ⟨rfl, rfl, rfl, hothers⟩
    · rw [isolateTo_isolating hc] at hothers ⊢
      exact ⟨rfl, rfl, rfl, hothers⟩
    · simp only [Sect.arrived, Sect.entered, ne_eq, hlive, not_false_eq_true, and_true]
      rfl
    · exact hentry.heads hoff (by simp [Sect.powered, hlv, hsup])
    · exact hentry.frogs (hoff.trans (by rcases hor with h | h <;> simp [Sect.powered, h]))

/-- Settles O32: each timer in its state, and where it changes nothing. -/
theorem stateTimerExpiries : Obligations.StateTimerExpiries := by
  intro s i x hr hu hx entered failed
  refine ⟨fun h hs => congrArg Host.Outcome.next ?_, fun h hs => congrArg Host.Outcome.next ?_, fun h hs => ?_,
    fun h => congrArg Host.Outcome.next (openExpiry_notDue hx h), fun h => congrArg Host.Outcome.next (closeExpiry_notDue hx h),
    fun h => congrArg Host.Outcome.next (testExpiry_notDue hx h)⟩
  · have hl : x.state ≠ .live := by rcases hs with hs | hs <;> simp [hs]
    rw [openExpiry_due hx h hs, lockOut_quiet (x := { x with isolateOnOpen := false }) .breakerFail .abandoned
      (State.sect_putSect_same ..) hl (by rcases hs with hs | hs <;> simp [hs]) (by rcases hs with hs | hs <;> simp [hs]),
      putSect_putSect]
    simp only [entered, stateTold, Sect.lockedFor, hl, if_false]
  · rw [closeExpiry_due hx h hs, failAttempt_quiet .closeFail .abandoned hx (by simp [hs]) (by simp [hs]) (by simp [hs])]
    rfl
  · obtain ⟨hown, hothers, hunits, htold, hfrogs⟩ := failAttempt_said .testFail none .timeout hr hu hx (by simp [hs])
    exact ⟨_, congrArg Host.Outcome.next (testExpiry_due hx h hs), hown, hothers, hunits, htold, hfrogs, by simp⟩

end Sys2Proof.Machine
end

section
/-!
PROOFS. The beginning of an attempt as a whole event, the energize request and the expiry of the dead wait (R39, R40, R42, R47, R51,
R54, R55). The statements settled stand at the end.
-/

namespace Sys2Proof.Machine

variable {s t : State} {i : SectionIx} {x : Sect}

/-! ## The passage to TEST_WAIT (R40, R51, R54, R55) -/

/-- Entry to a state leaves H. -/
theorem entered_h (now : Time) (st : SectionState) (x : Sect) : (x.entered now st).prot.h = x.prot.h := by
  unfold Sect.entered
  dsimp only
  split <;> rfl

theorem told_putUnit (v : UnitIx) (z : TestUnit) (s : State) : Told s (s.putUnit v z) := ⟨rfl, rfl, rfl⟩

/-- The notice of a section `x` that has entered `st`. -/
theorem stateTold_entered {now : Time} {st : SectionState} {w : Option OrderKind} (i : SectionIx) (x : Sect) (s : State) :
    stateTold i { x.entered now st with wait := w } s
      = raise (.sectionState i st x.tripReason x.lockReason x.attempts x.prot.h) s := by
  unfold stateTold
  dsimp only
  rw [entered_h]
  rfl

/-- A passage to TEST_WAIT tells the substate reached, once, and touches no frog. -/
theorem passToTestWait_told (hx : s.sect i = some x)
    (hf : (s.unit x.params.testUnit).holder = none → (s.unit x.params.testUnit).waiting = []) :
    Told (raise (.sectionState i (.energizing (if (s.unit x.params.testUnit).holder = none then .testing else .testWait))
      x.tripReason x.lockReason x.attempts x.prot.h) s) (passToTestWait i s) ∧ (passToTestWait i s).frogs = s.frogs := by
  obtain ⟨w, hw⟩ : ∃ w, w = (s.putSect i (some (x.entered s.partTime (.energizing .testWait)))).putUnit x.params.testUnit
    { s.unit x.params.testUnit with waiting := joinSet i (s.unit x.params.testUnit).waiting } := ⟨_, rfl⟩
  have hunit : w.unit x.params.testUnit
      = { s.unit x.params.testUnit with waiting := joinSet i (s.unit x.params.testUnit).waiting } := by rw [hw]; simp
  have hsect : w.sect i = some (x.entered s.partTime (.energizing .testWait)) := by rw [hw]; simp
  have htold : Told s w := by rw [hw]; exact ⟨rfl, rfl, rfl⟩
  have hfrogs : (grantUnit x.params.testUnit w).frogs = s.frogs := by rw [frogs_grantUnit, hw]; rfl
  have hpass : ∀ y, (grantUnit x.params.testUnit w).sect i = some y → passToTestWait i s
      = if y.state = .energizing .testWait then raiseSection i (grantUnit x.params.testUnit w)
        else grantUnit x.params.testUnit w := fun y hy => by
    unfold passToTestWait
    rw [hx]
    dsimp only
    rw [State.unit_putSect, ← hw, hy]
  clear hw
  obtain ⟨hg, hno⟩ | ⟨j, hholder, hfirst, hg⟩ := grantUnit_cases x.params.testUnit w
  · have hheld : (s.unit x.params.testUnit).holder ≠ none := hno.elim (by simp [hunit]) fun h => by
      have hmem : i ∈ (w.unit x.params.testUnit).waiting := by rw [hunit]; exact mem_joinSet.mpr (.inl rfl)
      rw [h] at hmem
      cases hmem
    have heq := (hpass _ (by rw [hg, hsect])).trans (if_pos rfl)
    have hnote : stateTold i (x.entered s.partTime (.energizing .testWait)) w = _ :=
      stateTold_entered (now := s.partTime) (w := none) i x w
    rw [heq, hg, raiseSection_eq hsect, if_neg hheld, hnote]
    exact ⟨htold.raise _, (congrArg State.frogs (besideNotices_raise w _) :).trans (hg ▸ hfrogs)⟩
  · have hfreed : (s.unit x.params.testUnit).holder = none := by simpa [hunit] using hholder
    have hj : j = i := by
      have hmem := firstWaiting_mem hfirst
      rw [hunit] at hmem
      simpa [mem_joinSet, hf hfreed] using hmem
    subst hj
    have hentered := (enterTesting_spec (j := j) (s := w.putUnit x.params.testUnit { w.unit x.params.testUnit with
      holder := some j, waiting := leaveSet j (w.unit x.params.testUnit).waiting, pointer := j + 1 })
      (by simpa using hsect)).1
    have heq := (hpass _ (by rw [hg]; exact hentered)).trans (if_neg (by simp [Sect.entered]))
    have hlast := enterTesting_told hentered
    rw [stateTold_entered, entered_h, ← hg] at hlast
    rw [heq, if_pos hfreed]
    refine ⟨Told.trans ?_ hlast, hfrogs⟩
    exact (htold.trans (told_putUnit ..)).raise _

/-- The record of a section that begins an attempt (R40). -/
def Sect.cooling (o : Origin) (n : Nat) (x : Sect) : Sect :=
  { x with state := .energizing .cooling, origin := some o, attempts := n, timer := .stopped, wait := none }

theorem beginAttempt_eq {o : Origin} {n : Nat} (hx : s.sect i = some x) (hl : x.state ≠ .live) : beginAttempt i o n s
    = if x.prot.h < x.params.hTrip / 2 then passToTestWait i (s.putSect i (some (x.cooling o n)))
      else raiseSection i (s.putSect i (some (x.cooling o n))) := by
  have hy : ({ x.entered s.partTime (.energizing .cooling) with origin := some o, attempts := n } : Sect) = x.cooling o n := by
    simp only [Sect.entered, Sect.cooling, entryTimer, hl, false_and, if_false]
  unfold beginAttempt
  rw [hx]
  dsimp only
  rw [hy]
  simp only [Sect.cool, decide_eq_true_eq]
  rfl

theorem beginAttempt_cools {o : Origin} {n : Nat} (hx : s.sect i = some x) (hl : x.state ≠ .live)
    (h : x.params.hTrip / 2 ≤ x.prot.h) : beginAttempt i o n s
      = raise (.sectionState i (.energizing .cooling) x.tripReason x.lockReason n x.prot.h)
        (s.putSect i (some { x with
          state := .energizing .cooling, origin := some o, attempts := n, timer := .stopped, wait := none })) := by
  rw [beginAttempt_eq hx hl, if_neg (Nat.not_lt.mpr h), raiseSection_eq (State.sect_putSect_same ..)]
  rfl

/-- An attempt that needs no cooling joins its unit at once (R40). -/
theorem beginAttempt_joins {o : Origin} {n : Nat} (hr : s.activity = .running) (hu : UnitsOk s) (hx : s.sect i = some x)
    (hl : x.state ≠ .live) (h : x.prot.h < x.params.hTrip / 2) :
    joinsUnit i { x with origin := some o, attempts := n } s (beginAttempt i o n s) ∧
    (∀ j, j ≠ i → (beginAttempt i o n s).sect j = s.sect j) ∧ (beginAttempt i o n s).frogs = s.frogs ∧
    Told (raise (.sectionState i
      (.energizing (if (s.unit x.params.testUnit).holder = none then .testing else .testWait))
      x.tripReason x.lockReason n x.prot.h) s) (beginAttempt i o n s) := by
  have hfree := (hu hr x.params.testUnit).free
  obtain ⟨-, hjoins, hothers⟩ := beginAttempt_spec o n hx hl hfree
  have htold := passToTestWait_told (s := s.putSect i (some (x.cooling o n))) (State.sect_putSect_same ..)
    (by simpa [Sect.cooling] using hfree)
  refine ⟨hjoins h, hothers, ?_, ?_⟩
  · rw [beginAttempt_eq hx hl, if_pos h]
    exact htold.2
  · rw [beginAttempt_eq hx hl, if_pos h]
    exact ((told_putSect i _ s).symm.raise _).trans htold.1

/-! ## The energize request (R39) and the expiry of the dead wait (R47) -/

theorem interceptSection_energize (hx : s.sect i = some x) : interceptSection i [0x03] s = energizeRequest i s := by
  unfold interceptSection
  rw [hx]
  rfl

section
variable (hx : s.sect i = some x)
include hx

theorem energizeRequest_refused (h : x.state = .unknown ∨ x.state = .tripping ∨ x.state = .isolating) :
    energizeRequest i s = raise (.orderRefused x.params.feederAddr 0x03 .state) s := by
  unfold energizeRequest
  rw [hx]
  obtain h | h | h := h <;> (dsimp only; rw [h]; rfl)

theorem energizeRequest_idle (h : x.state = .live ∨ ∃ sub, x.state = .energizing sub) : energizeRequest i s = s := by
  unfold energizeRequest
  rw [hx]
  obtain h | ⟨sub, h⟩ := h <;> (dsimp only; rw [h])

theorem energizeRequest_blind (h : x.state = .isolated ∨ x.state = .lockedOut ∨ x.state = .deadWait)
    (hb : x.prot.blind = true) : energizeRequest i s = lockOut i .blind none .abandoned s := by
  unfold energizeRequest
  rw [hx]
  obtain h | h | h := h <;> (dsimp only; rw [h]; exact if_pos hb)

theorem energizeRequest_leak (h : x.state = .deadWait) (hb : x.prot.blind = false) (hn : 0 < s.leakCount i) :
    energizeRequest i s = lockOut i .dispatchFail none .abandoned s := by
  unfold energizeRequest
  rw [hx]
  dsimp only
  rw [h]
  dsimp only
  rw [if_neg (by simp [hb]), if_pos hn]

theorem energizeRequest_begins (h : x.state = .isolated ∨ x.state = .lockedOut ∨ x.state = .deadWait)
    (hb : x.prot.blind = false) (hn : x.state = .deadWait → s.leakCount i = 0) :
    energizeRequest i s = beginAttempt i .dispatch 0 s := by
  unfold energizeRequest
  rw [hx]
  dsimp only
  obtain h | h | h := h
  · rw [h]
    exact if_neg (by simp [hb])
  · rw [h]
    exact if_neg (by simp [hb])
  · have hzero := hn h
    rw [h]
    dsimp only
    rw [if_neg (by simp [hb]), if_neg (by omega)]

theorem deadWaitExpires_notDue (h : x.state ≠ .deadWait ∨ x.timer.expired s.partTime = false) : deadWaitExpires i s = s := by
  unfold deadWaitExpires
  rw [hx]
  exact if_neg (by rcases h with h | h <;> simp [h])

/-- The decision at the expiry, in its fixed order (R47). -/
theorem deadWaitExpires_due (h : x.state = .deadWait) (he : x.timer.expired s.partTime = true) : deadWaitExpires i s
    = if x.prot.blind then lockOut i .blind none .abandoned s
      else if 0 < s.leakCount i then lockOut i .leak none .abandoned s
      else if x.params.recloseMax ≤ x.attempts then lockOut i .exhausted none .abandoned s
      else beginAttempt i .auto (x.attempts + 1) s := by
  unfold deadWaitExpires
  rw [hx]
  exact if_pos (by simp [h, he])

/-- A lock-out from a state of rest, as the statements say it. -/
theorem lockOut_rest (r : LockReason) (h : x.state = .isolated ∨ x.state = .lockedOut ∨ x.state = .deadWait) :
    lockOut i r none .abandoned s = raise (.sectionState i .lockedOut x.tripReason (some r) x.attempts x.prot.h)
      (s.putSect i (some { x with state := .lockedOut, lockReason := some r, timer := .stopped, wait := none })) := by
  have hne : x.state ≠ .live ∧ ∀ sub, x.state ≠ .energizing sub := by rcases h with h | h | h <;> simp [h]
  rw [lockOut_quiet r .abandoned hx hne.1 (hne.2 _) (hne.2 _)]
  simp only [stateTold, Sect.lockedFor, hne.1, if_false]

end

/-! ## The statements settled -/

/-- Settles O29: the request by the section's state, BLIND and the leak count. -/
theorem energizeRequestByState : Obligations.EnergizeRequestByState := by
  intro s i x dest src seq hs hu hsrc hi hx run lockedOut
  have hrun : run = .next (energizeRequest i s) := by
    rw [← interceptSection_energize hx]
    exact exec_orderInterceptSection hs hsrc (by simp) hi seq
  refine ⟨fun h => ?_, fun h => ?_, fun h => ⟨fun hb => ?_, fun hb hd hn => ?_, fun hb hn =>
    ⟨fun hc => ?_, fun hc => ?_⟩⟩⟩
  · rw [hrun, energizeRequest_refused hx h]
  · rw [hrun, energizeRequest_idle hx h]
  · rw [hrun, energizeRequest_blind hx h hb, lockOut_rest hx .blind h]
  · rw [hrun, energizeRequest_leak hx hd hb hn, lockOut_rest hx .dispatchFail h]
  · rw [hrun, energizeRequest_begins hx h hb hn, beginAttempt_cools hx (by rcases h with h | h | h <;> simp [h]) hc]
  · obtain ⟨hjoins, hothers, hfrogs, htold⟩ := beginAttempt_joins (o := .dispatch) (n := 0) hs.1 hu hx
      (by rcases h with h | h | h <;> simp [h]) hc
    exact ⟨_, by rw [hrun, energizeRequest_begins hx h hb hn], hjoins, hothers, hfrogs, ⟨htold.notices, htold.lost⟩,
      by simp⟩

/-- Settles O33: the decision of R47 in its order. -/
theorem deadWaitExpiry : Obligations.DeadWaitExpiry := by
  intro s i x hr hu hx run
  have hrun : run = .next (deadWaitExpires i s) := rfl
  refine ⟨fun h => by rw [hrun, deadWaitExpires_notDue hx h], fun h he => ?_⟩
  intro lockedOut
  rw [deadWaitExpires_due hx h he] at hrun
  have hrest : x.state = .isolated ∨ x.state = .lockedOut ∨ x.state = .deadWait := .inr (.inr h)
  have hl : x.state ≠ .live := by simp [h]
  refine ⟨fun hb => ?_, fun hb hn => ?_, fun hb hn ha => ?_, fun hb hn ha => ?_⟩
  · rw [hrun, if_pos hb, lockOut_rest hx .blind hrest]
  · rw [hrun, if_neg (by simp [hb]), if_pos hn, lockOut_rest hx .leak hrest]
  · rw [hrun, if_neg (by simp [hb]), if_neg (by omega), if_pos ha, lockOut_rest hx .exhausted hrest]
  · rw [if_neg (by simp [hb]), if_neg (by omega), if_neg (by omega)] at hrun
    refine ⟨fun hc => by rw [hrun, beginAttempt_cools hx hl hc], fun hc => ?_⟩
    obtain ⟨hjoins, hothers, hfrogs, htold⟩ := beginAttempt_joins (o := .auto) (n := x.attempts + 1) hr hu hx hl hc
    exact ⟨_, hrun, hjoins, hothers, hfrogs, ⟨htold.notices, htold.lost⟩, by simp⟩

end Sys2Proof.Machine
end

section
/-!
PROOFS. The ending of a SENT order (R50, R58, R95, R96, R99, R134, R137 to R140): the service of the registration waits turn by
turn, the owner told, and the ACK and its timer. The statement settled stands at the end.
-/

namespace Sys2Proof.Machine

variable {s t u q : State} {i : SectionIx} {x y : Sect} {f : FrogIx} {g : Frog} {o : TestOutcome} {l : List Order} {e : Order}

/-! ## The service of the waits (R134) -/

theorem serveTurns_cons (t : Turn) (rest : List Turn) (s : State) : serveTurns (t :: rest) s
    = if (serveTurn t s).2 then (serveTurn t s).1 else serveTurns rest (serveTurn t s).1 := rfl

theorem serveTurns_passes {t : Turn} (h : serveTurn t s = (s, false)) (rest : List Turn) :
    serveTurns (t :: rest) s = serveTurns rest s := by
  rw [serveTurns_cons, h]
  rfl

/-- A registration refused for a conflict leaves the list (R132). -/
theorem register_conflict {a : LineAddr} {k : OrderKind} (h : (register l a k).2 = .conflict) : (register l a k).1 = l := by
  have hfresh : ∀ m, (registerFresh m a k).2 ≠ .conflict := fun m => by
    unfold registerFresh
    split <;> nofun
  unfold register at h ⊢
  cases hf : l.find? fun e => decide (e.target = a) with
  | none =>
    rw [hf] at h
    exact absurd h (hfresh _)
  | some e =>
    rw [hf] at h
    dsimp only at h ⊢
    split_ifs at h ⊢
    · exact absurd h (hfresh _)
    · rfl

/-- The class of a section's turn (R134). -/
def Turn.urgentClass : Turn → Bool
  | .urgent _ => true
  | _ => false

section
variable {t : Turn} (ht : t = .urgent i ∨ t = .normal i)
include ht

theorem serveTurn_section : serveTurn t s = serveSection t.urgentClass i s := by
  obtain rfl | rfl := ht <;> rfl

theorem urgentClass_iff : t.urgentClass = true ↔ t = .urgent i := by
  obtain rfl | rfl := ht <;> simp [Turn.urgentClass]

variable (hx : s.sect i = some x)
include hx

theorem serveSection_idle (h : ∀ k, x.wait = some k → k.urgent ≠ t.urgentClass) : serveTurn t s = (s, false) := by
  rw [serveTurn_section ht]
  unfold serveSection
  rw [hx]
  dsimp only
  split
  · rfl
  next k hk => exact if_neg (h k hk)

theorem serveSection_asks {k : OrderKind} (hk : x.wait = some k) (h : k.urgent = t.urgentClass) : serveTurn t s
    = (registerFor i k s, decide ((register s.orders x.params.feederAddr k).2 = .noRoom)) := by
  rw [serveTurn_section ht]
  unfold serveSection
  rw [hx]
  dsimp only
  rw [hk]
  exact if_pos h

end

theorem registerFor_eq {k : OrderKind} {answer : RegAnswer} (hx : s.sect i = some x)
    (h : register s.orders x.params.feederAddr k = (l, answer)) : registerFor i k s
      = (s.setOrders l).putSect i (some { x with wait := if answer.registered then none else some k }) := by
  unfold registerFor
  rw [hx]
  dsimp only
  rw [h]

/-- A section whose registration is refused keeps its wait: nothing of it changes. -/
theorem registerFor_refused {k : OrderKind} {answer : RegAnswer} (hx : s.sect i = some x) (hk : x.wait = some k)
    (h : register s.orders x.params.feederAddr k = (l, answer)) (ha : answer.registered = false) :
    registerFor i k s = s.setOrders l := by
  rw [registerFor_eq hx h, ha, if_neg Bool.false_ne_true, ← hk]
  exact sect_self (s := s.setOrders l) hx

section
variable (hg : s.frog f = some g)
include hg

theorem serveFrog_idle (h : g.wait = none) : serveTurn (.frog f) s = (s, false) := by
  unfold serveTurn serveFrog
  dsimp only
  rw [hg]
  exact if_neg (by simp [h])

theorem serveFrog_checks {h : Frog} (hw : g.wait ≠ none) (hh : (headChecked f s).frog f = some h) : serveTurn (.frog f) s
    = (headChecked f s, h.wait.isSome && !(headChecked f s).orderTo h.params.ctrlAddr) := by
  unfold serveTurn serveFrog
  dsimp only
  rw [hg]
  dsimp only
  rw [if_pos (Option.isSome_iff_ne_none.mpr hw), noteFrog_checkHead, hh]

end

theorem orderTo_eq_false {a : LineAddr} : s.orderTo a = false ↔ ∀ e ∈ s.orders, e.target ≠ a := by
  simp [State.orderTo]

theorem serveTurn_sectionNone (h : s.sect i = none) :
    serveTurn (.urgent i) s = (s, false) ∧ serveTurn (.normal i) s = (s, false) := by
  simp [serveTurn, serveSection, h]

theorem serveTurn_frogNone (h : s.frog f = none) : serveTurn (.frog f) s = (s, false) := by simp [serveTurn, serveFrog, h]

/-- With no registration wait, no turn does anything. -/
theorem serveTurn_noWaits (h : s.noWaits) (t : Turn) : serveTurn t s = (s, false) := by
  obtain ⟨hsections, hfrogs⟩ := h
  have hsection : ∀ i t, t = .urgent i ∨ t = .normal i → serveTurn t s = (s, false) := fun i t ht => by
    cases hx : s.sect i with
    | none => obtain rfl | rfl := ht <;> simp [serveTurn_sectionNone hx]
    | some x => exact serveSection_idle ht hx fun k hk => absurd (hsections i x hx) (by simp [hk])
  cases t with
  | urgent i => exact hsection i _ (.inl rfl)
  | normal i => exact hsection i _ (.inr rfl)
  | frog f =>
    cases hg : s.frog f with
    | none => exact serveTurn_frogNone hg
    | some g => exact serveFrog_idle hg (hfrogs f g hg)

theorem serveTurns_noWaits (h : s.noWaits) (turns : List Turn) : serveTurns turns s = s := by
  induction turns with
  | nil => rfl
  | cons t rest ih => rw [serveTurns_passes (serveTurn_noWaits h t), ih]

/-! ## The owner told (R50, R58, R96, R99, R140) -/

/-- The state with an entry freed (R140 step 1). -/
def freed (e : Order) (s : State) : State := s.setOrders (s.orders.erase e)

theorem told_freed (e : Order) (s : State) : Told (freed e s) s := ⟨rfl, rfl, rfl⟩

/-- What an event leaves, where the test units are in order, whether or not the part runs. -/
theorem Left.said (h : Left i x y o l q s t) (hu : ∀ u, UnitOk s u) (hx : s.sect i = some x)
    (hy : ∀ sub, y.state ≠ .energizing sub) : Machine.othersKept i l s t ∧ Machine.unitsAfter i o s t ∧
      Machine.toldThen i q s t := by
  let r : State := { s with activity := .running }
  have hr : Left i x y o l q r t := h.congr (fun _ _ => rfl) rfl rfl (Told.refl q)
  have hur : UnitsOk r := fun _ u => ⟨(hu u).holder, (hu u).waiting, (hu u).free⟩
  exact ⟨hr.others rfl hur hx (hy _), hr.unitsAfter rfl hur hx (hy _) (hy _), hr.toldThen rfl hur hx (hy _)⟩

/-- Where no test unit was left, the test that was under way says nothing of the units. -/
theorem unitsAfter_of_not_testing {o' : TestOutcome} (hx : s.sect i = some x) (ht : x.state ≠ .energizing .testing)
    (h : unitsAfter i o s t) : unitsAfter i o' s t := by
  intro x' y hx' hy
  rw [hx] at hx'
  cases hx'
  obtain ⟨hothers, hwithdrawn, -⟩ := h x y hx hy
  exact ⟨hothers, hwithdrawn, fun hc => absurd hc ht⟩

theorem sectionEnding_ignored {k : OrderKind} {accepted : Bool} (hx : s.sect i = some x) (h : ¬ (accepted = false ∧
    (k = .test ∧ x.state = .energizing .testing ∨ k = .close ∧ x.state = .energizing .closing))) :
    sectionEnding i k accepted s = s := by
  unfold sectionEnding
  rw [hx]
  dsimp only
  split_ifs with ha ht hc
  · rfl
  · exact absurd ⟨by simpa using ha, .inl ht⟩ h
  · exact absurd ⟨by simpa using ha, .inr hc⟩ h
  · rfl

theorem sectionEnding_test (hx : s.sect i = some x) (ht : x.state = .energizing .testing) :
    sectionEnding i .test false s = failAttempt i .testFail none .orderFail s := by
  unfold sectionEnding
  rw [hx]
  dsimp only
  rw [if_neg Bool.false_ne_true, if_pos ⟨rfl, ht⟩]

theorem sectionEnding_close (hx : s.sect i = some x) (hc : x.state = .energizing .closing) :
    sectionEnding i .close false s = failAttempt i .closeFail none .abandoned s := by
  unfold sectionEnding
  rw [hx]
  dsimp only
  rw [if_neg Bool.false_ne_true, if_neg (fun h => nomatch h.1), if_pos ⟨rfl, hc⟩]

theorem isThrow_iff (k : OrderKind) : k.isThrow = true ↔ k = .throwNormal ∨ k = .throwReverse := by
  cases k <;> simp [OrderKind.isThrow]

section
variable {k : OrderKind} {accepted : Bool} (hg : s.frog f = some g)
include hg

theorem frogEnding_ignored (h : k.isThrow = false) : frogEnding f k accepted s = s := by
  unfold frogEnding
  rw [hg]
  exact if_neg (by simp [h])

theorem frogEnding_checks (h : k.isThrow = true) (hc : accepted = true ∨ headIn .throwing g.queue = false) :
    frogEnding f k accepted s = headChecked f s := by
  have hno : ¬ (!accepted && headIn .throwing g.queue) = true := by rcases hc with h | h <;> simp [h]
  unfold frogEnding
  rw [hg]
  dsimp only
  rw [if_pos h, if_neg hno]
  rfl

theorem frogEnding_fails {r : Request} {rest : List Request} (h : k.isThrow = true) (hq : g.queue = r :: rest)
    (hr : r.phase = .throwing) : frogEnding f k false s = raiseFrog f (blockGained f { g with
      position := .unknown, throwTimer := .stopped, queue := { r with phase := .waiting } :: rest, wait := none }
      .position s) := by
  unfold frogEnding
  rw [hg]
  dsimp only
  rw [if_pos h, if_pos (show (!false && headIn .throwing g.queue) = true by rw [hq, headIn_cons hr]; rfl), failThrow_eq hg hq]
  dsimp only [FrogWork.followedBy]
  rw [checkHead_blockGained]
  rfl

end

/-- The owner of an ended entry is told as the statements say. -/
theorem tellOwner_ownerTold (e : Order) (accepted : Bool) (s : State) :
    ownerTold e accepted s (tellOwner (s.ownerOf e.target) e.kind accepted (freed e s)) := by
  refine ⟨fun hs hf => ?_, fun i x hs hx => ⟨fun h => ?_, fun hc hu => ?_⟩,
    fun f g hs hf hg => ⟨fun hn hr => ?_, fun hk => ⟨fun h => ?_, fun r rest ha hq hr => ?_⟩⟩⟩
  · simp only [State.ownerOf, hs, hf]
    rfl
  · simp only [State.ownerOf, hs]
    exact sectionEnding_ignored (s := freed e s) hx h
  · obtain ⟨rfl, hc⟩ := hc
    obtain ⟨o, ho, htell⟩ : ∃ o, (x.state = .energizing .testing → o = .orderFail) ∧
        tellOwner (s.ownerOf e.target) e.kind false (freed e s)
          = failAttempt i (if e.kind = .test then .testFail else .closeFail) none o (freed e s) := by
      simp only [State.ownerOf, hs]
      obtain ⟨hk, hst⟩ | ⟨hk, hst⟩ := hc
      · exact ⟨.orderFail, fun _ => rfl, by rw [hk]; exact sectionEnding_test (s := freed e s) hx hst⟩
      · exact ⟨.abandoned, fun h => by simp [hst] at h, by rw [hk]; exact sectionEnding_close (s := freed e s) hx hst⟩
    have hl : x.state ≠ .live := by rcases hc with ⟨-, h⟩ | ⟨-, h⟩ <;> simp [h]
    rw [htell]
    generalize (if e.kind = .test then LockReason.testFail else .closeFail) = c
    have hentry := failAttempt_entry c none o (s := freed e s) hx hl fun ht => ((hu _).testing hx ht).2
    have hne := failedFor_state_ne c s.partTime x
    have hleft : Left i x (x.failedFor c s.partTime) o _ (stateTold i (x.failedFor c s.partTime) s) s _ :=
      hentry.left.congr (fun _ _ => rfl) rfl rfl ((told_freed e s).stateTold i _)
    obtain ⟨hothers, hunits, htold⟩ := hleft.said hu hx fun sub => (hne sub).1
    refine ⟨_, hleft.own, rfl, rfl, rfl, rfl, rfl, rfl, rfl, rfl, rfl, rfl, hothers, ?_, htold,
      hentry.frogs ((powered_of_ne_live (hne .cooling).2).trans (powered_of_ne_live hl).symm),
      by rw [besideSections_failAttempt]; rfl⟩
    by_cases ht : x.state = .energizing .testing
    · exact ho ht ▸ hunits
    · exact unitsAfter_of_not_testing hx ht hunits
  · simp only [State.ownerOf, hs, hf]
    exact frogEnding_ignored (s := freed e s) hg (by rw [← Bool.not_eq_true, isThrow_iff]; tauto)
  · simp only [State.ownerOf, hs, hf]
    refine frogEnding_checks (s := freed e s) hg ((isThrow_iff _).mpr hk) (h.imp_right fun hno => ?_)
    cases hq : g.queue with
    | nil => rfl
    | cons r rest => exact decide_eq_false (hno r rest hq)
  · simp only [State.ownerOf, hs, hf, ha]
    exact frogEnding_fails (s := freed e s) hg ((isThrow_iff _).mpr hk) hq hr

/-! ## The ACK and its timer (R137 to R139) -/

theorem endOrder_orderEnded {accepted : Bool} (h : OrdersOk s) (he : e ∈ s.orders) :
    orderEnded e accepted s (endOrder e accepted s) := by
  refine ⟨_, tellOwner_ownerTold e accepted s, ?_⟩
  unfold endOrder
  dsimp only
  rw [filter_target_eq_erase h.targets he rfl]
  rfl

theorem sentTo_eq {a : LineAddr} {seq : Byte} {timer : Timer} (h : OrdersOk s) (he : e ∈ s.orders) (ha : e.target = a)
    (hs : e.state = .sent seq timer) : s.sentTo a = some e := by
  obtain ⟨k, hk⟩ : ∃ k, s.sentTo a = some k :=
    Option.isSome_iff_exists.mp (List.find?_isSome.mpr ⟨e, he, by simp [ha, hs]⟩)
  have htarget : k.target = a := by
    have := List.find?_some hk
    simp only [Bool.and_eq_true, decide_eq_true_eq] at this
    exact this.1
  rw [hk, eq_of_target_eq h.targets (List.mem_of_find?_eq_some hk) he (htarget.trans ha.symm)]

theorem takeAck_sent {a : LineAddr} {seq q : Byte} {timer : Timer} {accepted : Bool} (h : s.sentTo a = some e)
    (hs : e.state = .sent q timer) : takeAck a seq accepted s = if q = seq then endOrder e accepted s else s := by
  unfold takeAck
  rw [h]
  dsimp only
  rw [hs]

theorem ackExpiry_sent {a : LineAddr} {q : Byte} {timer : Timer} (h : s.sentTo a = some e) (hs : e.state = .sent q timer) :
    ackExpiry a s = if timer.expired s.partTime then endOrder e false s else s := by
  unfold ackExpiry
  rw [h]
  dsimp only
  rw [hs]

theorem ackExpiry_notSent {a : LineAddr} (h : ∀ e ∈ s.orders, e.target = a → e.state = .queued) : ackExpiry a s = s := by
  have hnone : s.sentTo a = none := by simpa [State.sentTo] using h
  unfold ackExpiry
  rw [hnone]

/-- An ACK that qualifies is taken and left to the filter (R137, R146). -/
theorem exec_ackFrame {dest src : LineAddr} {seq echo code : Byte} {accepted : Bool} (hs : s.supervising) (hsrc : src ≠ 0x0000)
    (hp : parseAck [echo, code] = some (echo, accepted)) : exec (.ackFrame dest src seq [echo, code]) s
      = .next (fileFrame .field (makeFrame dest src 0x41 seq [echo, code]) (takeAck src echo accepted s)) := by
  have hproc : processField (makeFrame dest src 0x41 seq [echo, code]) s = takeAck src echo accepted s := by
    simp [processField, makeFrame, kindSample, kindBreaker, kindTestResult, kindPosition, kindSkate, kindVehicle, kindAck, hp]
  exact congrArg Host.Outcome.next
    ((arriveFrame_field hs (makeFrame dest src 0x41 seq [echo, code])
      (show (0x41 : Byte) ≠ kindMgmt by decide) hsrc (show 2 ≤ 120 by decide)).trans (by rw [hproc]))

/-! ## The statement settled -/

/-- Settles O45: the waits served turn by turn, then the ACK and the timer that end the entry. -/
theorem endingOfASentOrder : Obligations.EndingOfASentOrder := by
  refine ⟨fun s => ⟨rfl, rfl, fun h => serveTurns_noWaits h _⟩,
    fun s t rest i x hx ht => ⟨fun h => ?_, fun k l answer hk h hreg => ⟨fun ha => ?_, fun ha => ?_, fun ha => ?_⟩⟩,
    fun s rest i f => ⟨fun h => ?_, fun h => ?_⟩,
    fun s rest f g hg => ⟨fun hw => ?_, fun h hw hh => ⟨fun hc => ?_, fun hc => ?_⟩⟩,
    fun s e q timer dest src seq echo code hs hsrc hok he ha hst hc => ?_,
    fun s a hok => ⟨fun h => ?_, fun e q timer he ha hst => ⟨fun h => ?_, fun h => ?_⟩⟩⟩
  · refine serveTurns_passes (serveSection_idle ht hx fun k hk hu => ?_) rest
    have hiff := h k hk
    rw [← urgentClass_iff ht, ← hu, OrderKind.urgent_iff] at hiff
    tauto
  · have hu : k.urgent = t.urgentClass := by rw [Bool.eq_iff_iff, urgentClass_iff ht, h, OrderKind.urgent_iff]
    have hregistered : answer.registered = true := by rcases ha with rfl | rfl <;> rfl
    rw [serveTurns_cons, serveSection_asks ht hx hk hu, registerFor_eq hx hreg, hreg, hregistered]
    exact if_neg (by rcases ha with rfl | rfl <;> simp)
  · have hu : k.urgent = t.urgentClass := by rw [Bool.eq_iff_iff, urgentClass_iff ht, h, OrderKind.urgent_iff]
    subst ha
    have hlist : l = s.orders := by
      have := register_conflict (congrArg Prod.snd hreg)
      rwa [hreg] at this
    rw [serveTurns_cons, serveSection_asks ht hx hk hu, registerFor_refused hx hk hreg rfl, hreg, hlist]
    rfl
  · have hu : k.urgent = t.urgentClass := by rw [Bool.eq_iff_iff, urgentClass_iff ht, h, OrderKind.urgent_iff]
    subst ha
    rw [serveTurns_cons, serveSection_asks ht hx hk hu, registerFor_refused hx hk hreg rfl, hreg]
    rfl
  · exact ⟨serveTurns_passes (serveTurn_sectionNone h).1 rest, serveTurns_passes (serveTurn_sectionNone h).2 rest⟩
  · exact serveTurns_passes (serveTurn_frogNone h) rest
  · exact serveTurns_passes (serveFrog_idle hg hw) rest
  · rw [serveTurns_cons, serveFrog_checks hg hw hh]
    exact if_pos (by simp [Option.isSome_iff_ne_none.mpr hc.1, orderTo_eq_false.mpr hc.2])
  · rw [serveTurns_cons, serveFrog_checks hg hw hh]
    refine if_neg ?_
    obtain hnone | ⟨e, he, ha⟩ := hc
    · simp [hnone]
    · have hto : (headChecked f s).orderTo h.params.ctrlAddr = true := List.any_eq_true.mpr ⟨e, he, decide_eq_true ha⟩
      simp [hto]
  · intro filed
    have hparse : parseAck [echo, code] = some (echo, decide (code = 0x00)) := by rcases hc with rfl | rfl <;> rfl
    have hrun := exec_ackFrame (dest := dest) (seq := seq) hs hsrc hparse
    rw [takeAck_sent (sentTo_eq hok he ha hst) hst] at hrun
    refine ⟨fun hne => by rw [hrun, if_neg (Ne.symm hne)], fun heq => ⟨_, endOrder_orderEnded hok he, ?_⟩⟩
    rw [hrun, if_pos heq.symm]
  · exact congrArg Host.Outcome.next (ackExpiry_notSent h)
  · refine congrArg Host.Outcome.next ((ackExpiry_sent (sentTo_eq hok he ha hst) hst).trans (if_neg (by simp [h])))
  · exact ⟨_, endOrder_orderEnded hok he,
      congrArg Host.Outcome.next ((ackExpiry_sent (sentTo_eq hok he ha hst) hst).trans (if_pos h))⟩

end Sys2Proof.Machine
end

section
/-!
PROOFS. A BREAKER report in every state of its section (R25, R30 to R34, R36, R38, R43, R51, R56, R57). The statement settled stands
at the end.
-/

namespace Sys2Proof.Machine

variable {s t u q : State} {i : SectionIx} {x y : Sect} {o : TestOutcome} {l : List Order} {b : BreakerState}

/-! ## What a report makes of the section's record (spec/02 section 2.3) -/

/-- The report changes the section's state, or is a FAULT (R51). -/
def breakerMoves (b : BreakerState) (x : Sect) : Prop := breakerNext b x ≠ x.state ∨ b = .fault

/-- The flag of a local close (R32). -/
def breakerFlag (b : BreakerState) (x : Sect) : Option SectionFlag :=
  if b = .closed ∧ x.state ∈ [.isolated, .lockedOut, .deadWait, .energizing .cooling, .energizing .testWait,
    .energizing .testing] then some .localClose else none

/-- The record with which the section enters its next state (R30 to R34, R36). -/
def breakerRecord (b : BreakerState) (x : Sect) : Sect :=
  { x with
    lastReport := some b
    attempts := if breakerNext b x = .live ∧ x.state ≠ .live ∧ x.state ≠ .energizing .closing then 0 else x.attempts
    tripReason := if x.state = .live ∧ b = .opened then some .external
      else if x.state = .live ∧ b = .fault then some .breakerFault else x.tripReason
    lockReason := if b = .fault then some .breakerFault
      else if breakerNext b x = .lockedOut ∧ x.state ≠ .lockedOut then some .exhausted else x.lockReason
    isolateOnOpen := if b = .fault ∨ (b = .opened ∧ x.state = .tripping) then false else x.isolateOnOpen }

theorem lockOut_putSect (i : SectionIx) (r : LockReason) (fl : Option SectionFlag) (o : TestOutcome) (x : Sect) (s : State) :
    lockOut i r fl o (s.putSect i (some x))
      = enterState i .lockedOut fl o (s.putSect i (some { x with lockReason := some r })) := by
  unfold lockOut
  rw [editSect_putSect]

theorem openedToWait_putSect (i : SectionIx) (x : Sect) (s : State) : openedToWait i (s.putSect i (some x))
    = if x.params.recloseMax = 0 then
        enterState i .lockedOut none .abandoned (s.putSect i (some { x with lockReason := some .exhausted }))
      else enterState i .deadWait none .abandoned (s.putSect i (some x)) := by
  unfold openedToWait
  rw [State.sect_putSect_same]
  dsimp only
  rw [lockOut_putSect]

theorem takeBreaker_opened (hx : s.sect i = some x) (h : breakerMoves .opened x) : takeBreaker i .opened s
    = enterState i (breakerNext .opened x) (breakerFlag .opened x) .abandoned
      (s.putSect i (some (breakerRecord .opened x))) := by
  unfold takeBreaker
  rw [hx]
  dsimp only
  unfold reportOpen
  cases hs : x.state with
  | unknown => simp [breakerRecord, breakerNext, breakerFlag, hs]
  | live =>
    dsimp only
    rw [editSect_putSect, openedToWait_putSect]
    by_cases hr : x.params.recloseMax = 0 <;> simp [breakerRecord, breakerNext, breakerFlag, hs, hr]
  | tripping =>
    dsimp only
    rw [editSect_putSect, openedToWait_putSect]
    by_cases hk : x.isolateOnOpen = true
    · simp [breakerRecord, breakerNext, breakerFlag, hs, hk]
    · by_cases hr : x.params.recloseMax = 0 <;> simp [breakerRecord, breakerNext, breakerFlag, hs, hk, hr]
  | isolating => simp [breakerRecord, breakerNext, breakerFlag, hs]
  | isolated => simp [breakerMoves, breakerNext, hs] at h
  | deadWait => simp [breakerMoves, breakerNext, hs] at h
  | lockedOut => simp [breakerMoves, breakerNext, hs] at h
  | energizing sub => simp [breakerMoves, breakerNext, hs] at h

theorem takeBreaker_closed (hx : s.sect i = some x) (h : breakerMoves .closed x) : takeBreaker i .closed s
    = enterState i (breakerNext .closed x) (breakerFlag .closed x) .abandoned
      (s.putSect i (some (breakerRecord .closed x))) := by
  unfold takeBreaker
  rw [hx]
  dsimp only
  unfold reportClosed closeTo
  cases hs : x.state with
  | live => simp [breakerMoves, breakerNext, hs] at h
  | tripping => simp [breakerMoves, breakerNext, hs] at h
  | isolating => simp [breakerMoves, breakerNext, hs] at h
  | energizing sub => cases sub <;> simp [breakerRecord, breakerNext, breakerFlag, editSect_putSect, hs]
  | _ => simp [breakerRecord, breakerNext, breakerFlag, editSect_putSect, hs]

theorem takeBreaker_fault (hx : s.sect i = some x) : takeBreaker i .fault s
    = enterState i (breakerNext .fault x) (breakerFlag .fault x) .abandoned
      (s.putSect i (some (breakerRecord .fault x))) := by
  unfold takeBreaker
  rw [hx]
  dsimp only
  unfold reportFault
  rw [editSect_putSect, lockOut_putSect]
  simp [breakerRecord, breakerNext, breakerFlag]

/-- A report that moves the section has it enter the next state by that record. -/
theorem takeBreaker_moves (hx : s.sect i = some x) (h : breakerMoves b x) : takeBreaker i b s
    = enterState i (breakerNext b x) (breakerFlag b x) .abandoned (s.putSect i (some (breakerRecord b x))) := by
  cases b with
  | opened => exact takeBreaker_opened hx h
  | closed => exact takeBreaker_closed hx h
  | fault => exact takeBreaker_fault hx

/-- The states that an OPEN report moves (spec/02 section 2.3). -/
theorem breakerNext_opened_ne (h : x.state = .unknown ∨ x.state = .live ∨ x.state = .tripping ∨ x.state = .isolating) :
    breakerNext .opened x ≠ x.state := by
  obtain hs | hs | hs | hs := h <;> rw [hs] <;> simp only [breakerNext, hs]
  · nofun
  · split_ifs <;> nofun
  · split_ifs <;> nofun
  · nofun

/-- Any other report is recorded (R30). -/
theorem takeBreaker_stays (hx : s.sect i = some x) (h : ¬ breakerMoves b x) :
    takeBreaker i b s = s.putSect i (some { x with lastReport := some b }) ∧
    breakerRecord b x = { x with lastReport := some b } := by
  have hnext : breakerNext b x = x.state := by
    by_contra hne
    exact h (.inl hne)
  unfold takeBreaker
  rw [hx]
  cases b with
  | fault => exact absurd (.inr rfl) h
  | opened =>
    have hstate : ¬ (x.state = .unknown ∨ x.state = .live ∨ x.state = .tripping ∨ x.state = .isolating) :=
      fun hs => breakerNext_opened_ne hs hnext
    push Not at hstate
    obtain ⟨hunknown, hlive, htripping, hisolating⟩ := hstate
    refine ⟨?_, by simp [breakerRecord, hnext, hlive, htripping]⟩
    dsimp only
    unfold reportOpen
    split
    next hs => exact absurd hs hunknown
    next hs => exact absurd hs hlive
    next hs => exact absurd hs htripping
    next hs => exact absurd hs hisolating
    next => rfl
  | closed =>
    have hstate : x.state = .live ∨ x.state = .tripping ∨ x.state = .isolating := by
      cases hs : x.state <;> simp [breakerNext, hs] at hnext ⊢
    refine ⟨?_, by rcases hstate with hs | hs | hs <;> simp [breakerRecord, hnext, hs]⟩
    dsimp only
    unfold reportClosed
    obtain hs | hs | hs := hstate <;> simp [hs]

/-- A report that moves the section takes it to one of these states (spec/02 section 2.3). -/
theorem breakerNext_rest (h : breakerMoves b x) : breakerNext b x = .isolated ∨ breakerNext b x = .lockedOut ∨
    breakerNext b x = .live ∨ breakerNext b x = .deadWait := by
  cases b with
  | fault => simp [breakerNext]
  | opened =>
    have hne : breakerNext .opened x ≠ x.state := h.resolve_right nofun
    cases hs : x.state <;> simp only [breakerNext, hs] at hne ⊢ <;> (try split_ifs) <;> simp_all
  | closed =>
    have hne : breakerNext .closed x ≠ x.state := h.resolve_right nofun
    cases hs : x.state <;> simp_all [breakerNext]

/-! ## What the section's entry leaves -/

/-- The record after a report that moves the section. -/
def breakerArrived (b : BreakerState) (x : Sect) (s : State) : Sect :=
  (breakerRecord b x).arrived s.partTime s.orders (breakerNext b x)

/-- The timer and the wait in a state of rest, LIVE or DEAD_WAIT, and the order list kept (R28, R49). -/
theorem arrived_rest {st : SectionState} (now : Time) (l : List Order) (x : Sect)
    (h : st = .isolated ∨ st = .lockedOut ∨ st = .live ∨ st = .deadWait) :
    (x.arrived now l st).timer = restingTimer now st x.params ∧ (x.arrived now l st).wait = none ∧
    (entryAsked l x.params.feederAddr st).1 = l := by
  obtain rfl | rfl | rfl | rfl := h <;> exact ⟨rfl, rfl, rfl⟩

theorem breakerNext_ne (h : breakerMoves b x) (sub : Substate) : breakerNext b x ≠ .energizing sub := by
  rcases breakerNext_rest h with h | h | h | h <;> simp [h]

/-- A report takes no section from LIVE to LIVE but by leaving it there. -/
theorem breakerNext_live (h : breakerMoves b x) (hl : breakerNext b x = .live) : x.state ≠ .live := fun hx => by
  obtain hne | rfl := h
  · exact hne (hl.trans hx.symm)
  · cases hl

/-- The section gains power exactly where it comes to LIVE with SUPPLY_LOST clear (R25). -/
theorem breakerArrived_powered (h : breakerMoves b x) : (breakerArrived b x s).powered = true ↔
    x.state ≠ .live ∧ breakerNext b x = .live ∧ x.prot.supplyLost = false := by
  have hprot : breakerNext b x = .live → (breakerArrived b x s).prot = x.prot := fun hl => if_neg fun hc => hc.2 hl
  have hstate : (breakerArrived b x s).state = breakerNext b x := rfl
  unfold Sect.powered
  rw [hstate, Bool.and_eq_true, decide_eq_true_eq, Bool.not_eq_true']
  constructor
  · rintro ⟨hl, hs⟩
    exact ⟨breakerNext_live h hl, hl, hprot hl ▸ hs⟩
  · rintro ⟨-, hl, hs⟩
    exact ⟨hl, (hprot hl).symm ▸ hs⟩

theorem breakerRecord_powered (b : BreakerState) (x : Sect) : (breakerRecord b x).powered = x.powered := rfl

/-- What the report tells (R24, R32, R51). -/
theorem breaker_announced (y : Sect) : announced i (breakerRecord b x) (breakerNext b x) (breakerFlag b x) y s
    = if x.state = .live ∧ breakerNext b x ≠ .live ∧ x.prot.supplyLost = true then
        raise (.sectionFlag i .supplyLost false) (stateTold i y s)
      else if b = .closed ∧ x.state ∈ [.isolated, .lockedOut, .deadWait, .energizing .cooling, .energizing .testWait,
          .energizing .testing] then raise (.sectionFlag i .localClose true) (stateTold i y s)
      else stateTold i y s := by
  have hcleared : raiseSupplyCleared i (breakerRecord b x) (breakerNext b x) (stateTold i y s)
      = if x.state = .live ∧ breakerNext b x ≠ .live ∧ x.prot.supplyLost = true then
          raise (.sectionFlag i .supplyLost false) (stateTold i y s) else stateTold i y s := rfl
  unfold announced
  rw [hcleared]
  by_cases hl : x.state = .live
  · have hflag : breakerFlag b x = none := if_neg (by simp [hl])
    rw [hflag, if_neg (c := b = .closed ∧ _) (by simp [hl])]
    rfl
  · rw [if_neg fun h => hl h.1, if_neg fun h => hl h.1]
    unfold breakerFlag
    split <;> rfl

theorem Arrived.edited {x' : Sect} (h : Arrived i y l q (s.putSect i (some x')) u) : Arrived i y l q s u :=
  ⟨h.own, fun j hj => (h.others j hj).trans (by simp [State.sect_putSect, hj]), h.units, h.orders, h.partTime, h.told⟩

theorem Arrived.told_as {q' : State} (h : Arrived i y l q' s u) (hq : Told q' q) : Arrived i y l q s u :=
  ⟨h.own, h.others, h.units, h.orders, h.partTime, hq.symm.trans h.told⟩

/-- The check of the heads of its frogs keeps what the section's own part has done but for the orders and the notices (R93). -/
theorem Arrived.checkHeadsOf (h : Arrived i y l q s u) :
    Arrived i y (checkHeadsOf i u).orders (checkHeadsOf i u) s (checkHeadsOf i u) := by
  have hbeside := besideFrogs_checkHeadsOf u i
  have hsect := sect_congr (sections_of_besideFrogs hbeside)
  exact ⟨(hsect i).trans h.own, fun j hj => (hsect j).trans (h.others j hj), (units_of_besideFrogs hbeside).trans h.units, rfl,
    (partTime_of_besideFrogs hbeside).trans h.partTime, Told.refl _⟩

/-- A report by which the section gains no power (R25, R30 to R34, R36). -/
theorem takeBreaker_entry (hr : s.activity = .running) (hu : UnitsOk s) (hx : s.sect i = some x) (h : breakerMoves b x)
    (hno : (breakerArrived b x s).powered = false) :
    Entry i x (breakerArrived b x s) .abandoned s.orders
      (announced i (breakerRecord b x) (breakerNext b x) (breakerFlag b x) (breakerArrived b x s) s) s (takeBreaker i b s) := by
  have hlist := (arrived_rest s.partTime s.orders x (breakerNext_rest h)).2.2
  have hentry := enterState_entry_record (x := x) (x' := breakerRecord b x) (breakerNext b x) (breakerFlag b x) .abandoned
    rfl rfl (breakerRecord_powered b x) (notWaiting hr hu hx) fun hon => absurd (hno.symm.trans hon) Bool.false_ne_true
  rw [hlist] at hentry
  rw [takeBreaker_moves hx h]
  exact hentry

/-- A report by which the section gains power: the heads of its frogs are checked, and a test unit it held is left, in one order
or the other (R25, R56, R57; log entry 11). -/
theorem takeBreaker_powers (hr : s.activity = .running) (hu : UnitsOk s) (hx : s.sect i = some x) (h : breakerMoves b x)
    (hon : (breakerArrived b x s).powered = true) :
    ∃ u, Arrived i (breakerArrived b x s) s.orders
        (announced i (breakerRecord b x) (breakerNext b x) (breakerFlag b x) (breakerArrived b x s) s) s u ∧
      u.frogs = s.frogs ∧ u.globals = s.globals ∧
      (takeBreaker i b s = checkHeadsOf i (leaveTest i x .abandoned u) ∨
        takeBreaker i b s = leaveTest i x .abandoned (checkHeadsOf i u)) := by
  have hlist := (arrived_rest s.partTime s.orders x (breakerNext_rest h)).2.2
  have hput : (s.putSect i (some (breakerRecord b x))).sect i = some (breakerRecord b x) := State.sect_putSect_same ..
  have harrived := (enteredState_arrived i (breakerRecord b x) (breakerNext b x) (breakerFlag b x)
    (s.putSect i (some (breakerRecord b x)))).edited.told_as (Told.announced (told_putSect i _ s))
  have hframe := enteredState_frogs i (breakerRecord b x) (breakerNext b x) (breakerFlag b x)
    (s.putSect i (some (breakerRecord b x)))
  have hentered := enterState_eq (st := breakerNext b x) (fl := breakerFlag b x) (o := .abandoned) hput
  generalize enteredState i (breakerRecord b x) (breakerNext b x) (breakerFlag b x)
    (s.putSect i (some (breakerRecord b x))) = u at harrived hframe hentered
  have hglobals : (announced i (breakerRecord b x) (breakerNext b x) (breakerFlag b x) (breakerArrived b x s) s).globals
      = s.globals := (congrArg State.globals besideNotices_announced :)
  have hlost : (s.putSect i (some (breakerRecord b x))).powered i = false := by
    rw [powered_of_sect hput, breakerRecord_powered]
    exact powered_of_ne_live (breakerArrived_powered h |>.mp hon).1
  have hown : Arrived i (breakerArrived b x s) s.orders
      (announced i (breakerRecord b x) (breakerNext b x) (breakerFlag b x) (breakerArrived b x s) s) s u := by
    rw [← hlist]
    exact harrived
  have hgains : ∀ v : State, v.sect i = some (breakerArrived b x s) → checkIfPowerChanged i false v = checkHeadsOf i v :=
    fun v hv => if_neg (by rw [powered_of_sect hv, hon]; nofun)
  have hleft := hown.left (x := x) .abandoned (notWaiting hr hu hx)
  refine ⟨u, hown, hframe, hown.told.globals.trans hglobals, ?_⟩
  rw [takeBreaker_moves hx h, hentered, hlost]
  split
  · exact .inl (hgains _ hleft.own)
  · exact .inr (congrArg (leaveTest i (breakerRecord b x) .abandoned) (hgains _ hown.own))

/-! ## A section that stays in its state -/

theorem not_granted_of_kept (hx : s.sect i = some x) (hy : t.sect i = some y) (h : y.state = x.state) (j : SectionIx) :
    ¬ granted i s t j := by
  rintro ⟨x', y', hx', hy', ht, hne, -⟩
  rw [hx] at hx'
  rw [hy] at hy'
  cases hx'
  cases hy'
  exact hne (h.trans ht)

theorem unitsAfter_kept (hx : s.sect i = some x) (hy : t.sect i = some y) (h : y.state = x.state) (hu : t.units = s.units) :
    unitsAfter i o s t := by
  intro x' y' hx' hy'
  rw [hx] at hx'
  rw [hy] at hy'
  cases hx'
  cases hy'
  exact ⟨fun u _ => unit_congr hu u, fun ht hne => absurd (h.trans ht) hne,
    fun ht hne => absurd (h.trans ht) hne⟩

/-- A BREAKER report that qualifies is taken and left to the filter (R30, R146). -/
theorem exec_breakerReport {dest src : LineAddr} {seq code : Byte} (hs : s.supervising) (hsrc : src ≠ 0x0000)
    (hi : s.sectAt src = some i) (hp : parseBreaker [code] = some b) : exec (.breakerReport dest src seq [code]) s
      = .next (fileFrame .field (makeFrame dest src 0x12 seq [code]) (takeBreaker i b s)) := by
  have hproc : processField (makeFrame dest src 0x12 seq [code]) s = takeBreaker i b s := by
    simp [processField, makeFrame, kindSample, kindBreaker, hi, hp]
  exact congrArg Host.Outcome.next
    ((arriveFrame_field hs (makeFrame dest src 0x12 seq [code])
      (show (0x12 : Byte) ≠ kindMgmt by decide) hsrc (show 1 ≤ 120 by decide)).trans (by rw [hproc]))

/-! ## The statement settled -/

/-- Settles O26: a report that is only recorded, one that moves the section without a gain of power, and one by which it gains
power. -/
theorem breakerReportByState : Obligations.BreakerReportByState := by
  intro s i x dest src seq code b hs hu hsrc hi hx hc
  have hr := hs.1
  have hparse : parseBreaker [code] = some b := by obtain ⟨rfl, rfl⟩ | ⟨rfl, rfl⟩ | ⟨rfl, rfl⟩ := hc <;> rfl
  have hrun := exec_breakerReport (dest := dest) (seq := seq) hs hsrc hi hparse
  by_cases hm : breakerMoves b x
  · obtain ⟨htimer, hwait, -⟩ := arrived_rest s.partTime s.orders (breakerRecord b x) (breakerNext_rest hm)
    have hne := breakerNext_ne hm
    have hstays : breakerNext b x = x.state → b ≠ .fault → False := fun hst hb => hm.elim (fun h => h hst) hb
    have hpower := breakerArrived_powered (s := s) hm
    have htold := breaker_announced (i := i) (s := s) (b := b) (x := x) (breakerArrived b x s)
    by_cases hpc : x.state ≠ .live ∧ breakerNext b x = .live ∧ x.prot.supplyLost = false
    · have hon := hpower.mpr hpc
      have hloses : ¬ ((x.state = .live ↔ (breakerArrived b x s).state = .live) ∨ x.prot.supplyLost = true) := by
        rintro (h | h)
        · exact hpc.1 (h.mpr hpc.2.1)
        · rw [hpc.2.2] at h
          cases h
      obtain ⟨u, harrived, hfrogs, hglobals, htake⟩ := takeBreaker_powers hr hu hx hm hon
      rw [htold] at harrived
      have hw := notWaiting hr hu hx
      rcases htake with htake | htake
      · have hleft := harrived.left (x := x) .abandoned hw
        have hbeside := besideFrogs_checkHeadsOf (leaveTest i x .abandoned u) i
        have hsect := sect_congr (sections_of_besideFrogs hbeside)
        have hmask : (leaveTest i x .abandoned u).partTime = s.partTime ∧ (leaveTest i x .abandoned u).globals = s.globals :=
          ⟨(partTime_of_besideSections (by simp)).trans harrived.partTime, (globals_of_besideSections (by simp)).trans hglobals⟩
        have hdeparted := hleft.departed.congr (t := checkHeadsOf i (leaveTest i x .abandoned u)) (fun _ _ => rfl) rfl rfl
          (sections_of_besideFrogs hbeside) (units_of_besideFrogs hbeside)
        have hown := (hsect i).trans hleft.own
        rw [htake] at hrun
        refine ⟨_, breakerArrived b x s, hrun, hown, rfl, rfl, rfl, rfl, rfl, rfl, rfl, rfl,
          fun hst hb => (hstays hst hb).elim, fun _ => ⟨htimer, hwait⟩, rfl, hdeparted.unitsAfter hr hu hx fun z hz => ?_, ?_⟩
        · rw [hown] at hz
          cases hz
          exact ⟨hne _, hne _⟩
        intro told powerCame
        exact ⟨fun hst hb => (hstays hst hb).elim, fun _ h => absurd hpc h, fun h => absurd hpc h, fun hl => absurd hl hpc.1,
          fun h => absurd h hloses, fun _ => ⟨leaveTest i x .abandoned u, hleft.own, (frogs_leaveTest ..).trans hfrogs, hmask.1,
            hmask.2, rfl, .inl ⟨hleft.others hr hu hx (hne _), hleft.toldThen hr hu hx (hne _), hsect, rfl, rfl, rfl⟩⟩,
          by rw [← htake]; simp⟩
      · have hleft := harrived.checkHeadsOf.left (x := x) .abandoned hw
        rw [htake] at hrun
        refine ⟨_, breakerArrived b x s, hrun, hleft.own, rfl, rfl, rfl, rfl, rfl, rfl, rfl, rfl,
          fun hst hb => (hstays hst hb).elim, fun _ => ⟨htimer, hwait⟩, rfl, hleft.unitsAfter hr hu hx (hne _) (hne _), ?_⟩
        intro told powerCame
        exact ⟨fun hst hb => (hstays hst hb).elim, fun _ h => absurd hpc h, fun h => absurd hpc h, fun hl => absurd hl hpc.1,
          fun h => absurd h hloses, fun _ => ⟨u, harrived.own, hfrogs, harrived.partTime, hglobals, frogs_leaveTest ..,
            .inr ⟨harrived.orders, harrived.told.notices, harrived.told.lost, hleft.others hr hu hx (hne _),
              hleft.toldThen hr hu hx (hne _)⟩⟩,
          by rw [← htake]; simp⟩
    · have hoff : (breakerArrived b x s).powered = false := by rw [← Bool.not_eq_true, hpower]; exact hpc
      have hentry := takeBreaker_entry hr hu hx hm hoff
      rw [htold] at hentry
      have hleft := hentry.left
      refine ⟨_, breakerArrived b x s, hrun, hleft.own, rfl, rfl, rfl, rfl, rfl, rfl, rfl, rfl,
        fun hst hb => (hstays hst hb).elim, fun _ => ⟨htimer, hwait⟩, rfl, hleft.unitsAfter hr hu hx (hne _) (hne _), ?_⟩
      intro told powerCame
      refine ⟨fun hst hb => (hstays hst hb).elim, fun _ _ => hleft.toldThen hr hu hx (hne _),
        fun _ => hleft.others hr hu hx (hne _), fun hl _ hsup => hentry.heads hoff (by simp [Sect.powered, hl, hsup]),
        fun h => hentry.frogs (hoff.trans ?_), fun h => absurd h hpc, by simp⟩
      rcases h with h | h
      · exact (powered_of_ne_live fun hl => breakerNext_live hm (h.mp hl) hl).symm
      · simp [Sect.powered, h]
  · obtain ⟨htake, hrecord⟩ := takeBreaker_stays hx hm
    have hnext : breakerNext b x = x.state := by
      by_contra hne
      exact hm (.inl hne)
    have hfault : b ≠ .fault := fun hb => hm (.inr hb)
    rw [htake] at hrun
    have hown : (s.putSect i (some { x with lastReport := some b })).sect i = some { x with lastReport := some b } :=
      State.sect_putSect_same ..
    have hgranted := not_granted_of_kept hx hown rfl
    refine ⟨_, _, hrun, hown, rfl, hnext.symm, ?_, (congrArg Sect.tripReason hrecord).symm, ?_,
      (congrArg Sect.isolateOnOpen hrecord).symm, rfl, rfl, fun _ _ => ⟨rfl, rfl⟩, fun h => (h.elim (fun h => h rfl) hfault).elim,
      (if_neg fun h => h.2 h.1).symm, ?_, ?_⟩
    · exact (if_neg fun h => h.2.1 h.1).symm
    · exact ((if_neg hfault).trans (if_neg fun h => h.2 h.1)).symm
    · exact unitsAfter_kept hx hown rfl rfl
    intro told powerCame
    refine ⟨fun _ _ => ⟨rfl, rfl⟩, fun h => (h.elim (fun h => h rfl) hfault).elim, fun _ => ?_, fun hl h => absurd hl h,
      fun _ => rfl, fun h => absurd h.2.1 h.1, by simp⟩
    exact ⟨fun j hj => ⟨fun h => (hgranted j h).elim, fun _ => by simp [State.sect_putSect, hj]⟩, fun _ => rfl⟩

end Sys2Proof.Machine
end

section
/-!
PROOFS. A SAMPLE frame by its sequence gap (R4, R6 to R9, R20, R22, R23, R25, R40): the samples of its payload, the class of its
gap, what each part of its work leaves of the section's record, the supply-loss evaluation and the cool-down check. The statement
settled stands at the end.
-/

namespace Sys2Proof.Machine

variable {s t e : State} {i : SectionIx} {x y z : Sect} {seq : Byte} {volts : List Nat}

/-! ## The samples of a payload (spec/01 section 1.3) -/

/-- The `k`th sample of a payload. -/
def sampleAt (p : List Byte) (k : Nat) : Sample :=
  { current := (word (p.getD (4 * k) 0) (p.getD (4 * k + 1) 0)).toInt
    voltage := (word (p.getD (4 * k + 2) 0) (p.getD (4 * k + 3) 0)).toNat }

/-- A payload of `4 n` bytes holds `n` samples, in their order. -/
theorem parseSamples_eq (n : Nat) (p : List Byte) (h : p.length = 4 * n) : parseSamples p = (List.range n).map (sampleAt p) := by
  induction n generalizing p with
  | zero => rw [List.length_eq_zero_iff.mp h]; rfl
  | succ n ih =>
    obtain _ | ⟨c1, _ | ⟨c0, _ | ⟨v1, _ | ⟨v0, rest⟩⟩⟩⟩ := p <;> simp only [List.length_cons, List.length_nil] at h <;>
      try omega
    rw [parseSamples, ih rest (by omega), List.range_succ_eq_map, List.map_cons, List.map_map]
    rfl

/-! ## The class of a frame (R6) -/

theorem gapClass_stale (hs : x.prot.synced = true) (h : 128 ≤ (seq - x.prot.expectedSeq).toNat) :
    gapClass x.prot seq = .stale := by
  unfold gapClass
  rw [hs]
  dsimp only
  rw [if_neg nofun, if_neg (by omega), if_neg (by omega), if_neg (by omega)]

theorem gapClass_resync (h : x.prot.synced = false ∨ 4 ≤ (seq - x.prot.expectedSeq).toNat)
    (hlt : x.prot.synced = false ∨ (seq - x.prot.expectedSeq).toNat < 128) : gapClass x.prot seq = .resync := by
  unfold gapClass
  cases hs : x.prot.synced with
  | false => rfl
  | true =>
    rw [hs] at h hlt
    replace h := h.resolve_left nofun
    replace hlt := hlt.resolve_left nofun
    dsimp only
    rw [if_neg nofun, if_neg (by omega), if_neg (by omega), if_pos (by omega)]

theorem gapClass_normal (hs : x.prot.synced = true) (h : (seq - x.prot.expectedSeq).toNat = 0) :
    gapClass x.prot seq = .normal := by
  unfold gapClass
  rw [hs]
  exact (if_neg nofun).trans (if_pos h)

theorem gapClass_missing (hs : x.prot.synced = true) (h0 : (seq - x.prot.expectedSeq).toNat ≠ 0)
    (h : (seq - x.prot.expectedSeq).toNat < 4) : gapClass x.prot seq = .missing (seq - x.prot.expectedSeq).toNat := by
  unfold gapClass
  rw [hs]
  dsimp only
  rw [if_neg nofun, if_neg h0, if_pos (by omega)]

theorem gapClass_accepted (h : x.prot.synced = false ∨ (seq - x.prot.expectedSeq).toNat < 128) :
    (x.prot.synced = true ∨ gapClass x.prot seq = .resync) ∧ gapClass x.prot seq ≠ .stale := by
  by_cases hresync : x.prot.synced = false ∨ 4 ≤ (seq - x.prot.expectedSeq).toNat
  · rw [gapClass_resync hresync h]
    exact ⟨.inr rfl, nofun⟩
  · rw [not_or, Bool.not_eq_false, Nat.not_le] at hresync
    refine ⟨.inl hresync.1, ?_⟩
    by_cases h0 : (seq - x.prot.expectedSeq).toNat = 0
    · rw [gapClass_normal hresync.1 h0]
      nofun
    · rw [gapClass_missing hresync.1 h0 hresync.2]
      nofun

theorem takeSamples_stale {p : List Byte} (hx : s.sect i = some x) (h : gapClass x.prot seq = .stale) :
    takeSamples i seq p s = s := by
  unfold takeSamples
  rw [hx]
  dsimp only
  rw [h]

theorem takeSamples_accepted {p : List Byte} (hx : s.sect i = some x) (h : gapClass x.prot seq ≠ .stale) :
    takeSamples i seq p s = acceptFrame i (gapClass x.prot seq) seq (parseSamples p) s := by
  unfold takeSamples
  rw [hx]
  dsimp only
  split
  next hc => exact absurd hc h
  next => rfl

/-! ## What samples and fill steps leave of the record -/

/-- A record with the parameters, the sequence state and the BLIND flag of `x`, and I_prev as given. -/
structure Follows (x : Sect) (prev : Int) (y : Sect) : Prop where
  params : y.params = x.params
  synced : y.prot.synced = x.prot.synced
  blind : y.prot.blind = x.prot.blind
  previous : y.prot.iPrev = prev

theorem tripIf_follows {r : Option TripReason} {prev : Int} (h : Follows x prev y) (hr : y.state ≠ .live → r = none) (s : State) :
    ∃ z, (tripIf i r (s.putSect i (some y))).sect i = some z ∧ Follows x prev z := by
  cases r with
  | none => exact ⟨y, State.sect_putSect_same s i _, h⟩
  | some r =>
    have hl : y.state = .live := by by_contra hn; cases hr hn
    exact ⟨_, (trip_tripped i r hl s).tripping, h.params, h.synced, h.blind, h.previous⟩

theorem takeSample_follows (m : Sample) (hx : s.sect i = some x) :
    ∃ y, (takeSample i s m).sect i = some y ∧ Follows x m.clamped.current y := by
  rw [takeSample_eq m hx]
  obtain ⟨w, hw⟩ := judgeSample_measured (s.vehicleCount i) x m.clamped.current
  rw [hw]
  exact tripIf_follows (x := x) (y := x.measured w (nextH x.prot.h x.params.ic m.clamped.current) m.clamped.current)
    ⟨rfl, rfl, rfl, rfl⟩ (fun hl => by rw [judgeSample_not_live (x := x) _ _ hl]) s

theorem fillStep_follows (hx : s.sect i = some x) :
    ∃ y, (fillStep i s).sect i = some y ∧ Follows x x.prot.iPrev y := by
  rw [fillStep_eq hx]
  exact tripIf_follows (x := x) (y := x.measured x.prot.window (nextH x.prot.h x.params.ic x.prot.iLast) x.prot.iPrev)
    ⟨rfl, rfl, rfl, rfl⟩ (fun hl => if_neg fun h => hl h.1) s

theorem Follows.trans {a b : Int} (h : Follows x a y) (k : Follows y b z) : Follows x b z :=
  ⟨k.params.trans h.params, k.synced.trans h.synced, k.blind.trans h.blind, k.previous⟩

theorem samples_follow (l : List Sample) (hx : s.sect i = some x) :
    ∃ y, (l.foldl (takeSample i) s).sect i = some y ∧
      Follows x ((l.map fun m => m.clamped.current).getLastD x.prot.iPrev) y := by
  induction l generalizing s x with
  | nil => exact ⟨x, hx, rfl, rfl, rfl, rfl⟩
  | cons m l ih =>
    obtain ⟨y, hy, hm⟩ := takeSample_follows m hx
    obtain ⟨z, hz, hl⟩ := ih hy
    rw [hm.previous] at hl
    rw [List.map_cons, List.getLastD_cons]
    exact ⟨z, hz, hm.trans hl⟩

theorem fillSteps_follow (n : Nat) (hx : s.sect i = some x) :
    ∃ y, (fillSteps i n s).sect i = some y ∧ Follows x x.prot.iPrev y := by
  induction n generalizing s x with
  | zero => exact ⟨x, hx, rfl, rfl, rfl, rfl⟩
  | succ n ih =>
    obtain ⟨y, hy, hm⟩ := fillStep_follows hx
    obtain ⟨z, hz, hl⟩ := ih hy
    exact ⟨z, hz, hm.previous ▸ hm.trans hl⟩

theorem fillSteps_eq (i : SectionIx) (n : Nat) (s : State) : fillSteps i n s = Nat.iterate (fillStep i) n s := by
  induction n generalizing s with
  | zero => rfl
  | succ n ih => exact ih _

/-! ## BLIND and the gap (R7, R8, R22) -/

theorem clearBlind_eq (hx : s.sect i = some x) : clearBlind i s
    = if x.prot.blind then raise (.sectionFlag i .blind false) (s.editProt i fun p => { p with blind := false }) else s := by
  unfold clearBlind
  rw [hx]

theorem clearBlind_sect (hx : s.sect i = some x) :
    ∃ y, (clearBlind i s).sect i = some y ∧ y.params = x.params ∧ y.prot.synced = x.prot.synced ∧ y.prot.blind = false := by
  rw [clearBlind_eq hx]
  cases hb : x.prot.blind with
  | false => exact ⟨x, hx, rfl, rfl, hb⟩
  | true =>
    refine ⟨{ x with prot := { x.prot with blind := false } }, ?_, rfl, rfl, rfl⟩
    simp [State.editProt, editSect_eq hx]

/-- After the gap action of a frame that is not stale the section is synchronised (R8). -/
theorem gapAction_sect (a : Int) (hx : s.sect i = some x) (hb : x.prot.blind = false) {c : GapClass}
    (hc : x.prot.synced = true ∨ c = .resync) :
    ∃ y, (gapAction i c a s).sect i = some y ∧ y.params = x.params ∧ y.prot.synced = true ∧ y.prot.blind = false := by
  have hkept : c ≠ .resync → x.prot.synced = true := fun hne => hc.resolve_right hne
  cases c with
  | normal => exact ⟨x, hx, rfl, hkept nofun, hb⟩
  | stale => exact ⟨x, hx, rfl, hkept nofun, hb⟩
  | resync =>
    exact ⟨{ x with prot := { x.prot with window := none, iPrev := a, synced := true } },
      by simp [gapAction, resync, State.editProt, editSect_eq hx], rfl, rfl, hb⟩
  | missing g =>
    obtain ⟨y, hy, hf⟩ := fillSteps_follow (8 * g) hx
    exact ⟨{ y with prot := { y.prot with window := none, iPrev := y.prot.iLast } },
      by simp [gapAction, fillGap, State.editProt, editSect_eq hy], hf.params, hf.synced.trans (hkept nofun),
      hf.blind.trans hb⟩

/-! ## The supply-loss evaluation (R23, R25) -/

/-- SUPPLY_LOST has changed in LIVE: the power of the section has changed, and the heads of its frogs are checked. -/
theorem checkIfPowerChanged_supply {b : Bool} (hx : s.sect i = some x) (hl : x.state = .live) (hs : x.prot.supplyLost = b)
    (hy : t.sect i = some y) (hl' : y.state = .live) (hs' : y.prot.supplyLost = !b) :
    checkIfPowerChanged i (s.powered i) t = checkHeadsOf i t := by
  refine if_neg ?_
  rw [powered_of_sect hx, powered_of_sect hy]
  simp [Sect.powered, hl, hs, hl', hs']

theorem evaluateSupply_off (hx : s.sect i = some x) (hl : x.state ≠ .live) : evaluateSupply i volts s = s := by
  unfold evaluateSupply
  rw [hx]
  exact if_neg hl

section
variable (hx : s.sect i = some x) (hl : x.state = .live)
include hx hl

theorem evaluateSupply_mixed (hlow : ¬ ∀ v ∈ volts, v < x.params.vDead) (hhigh : ¬ ∀ v ∈ volts, x.params.vDead ≤ v) :
    evaluateSupply i volts s = s := by
  unfold evaluateSupply
  rw [hx]
  dsimp only
  rw [if_pos hl, if_neg (by simpa using hlow), if_neg (by simpa using hhigh)]

theorem evaluateSupply_low (hlow : ∀ v ∈ volts, v < x.params.vDead)
    (hno : (s.partTime - x.prot.lowRun.getD s.partTime).toNat < x.params.supplyLossTime ∨ x.prot.supplyLost = true) :
    evaluateSupply i volts s = s.editProt i fun p => { p with lowRun := some (x.prot.lowRun.getD s.partTime) } := by
  unfold evaluateSupply State.editProt
  rw [hx, editSect_eq hx]
  dsimp only
  rw [if_pos hl, if_pos (by simpa using hlow), if_neg]
  rintro ⟨hle, hs⟩
  rcases hno with hlt | hlost
  · omega
  · rw [hs] at hlost
    cases hlost

theorem evaluateSupply_lost (hlow : ∀ v ∈ volts, v < x.params.vDead)
    (hle : x.params.supplyLossTime ≤ (s.partTime - x.prot.lowRun.getD s.partTime).toNat) (hs : x.prot.supplyLost = false) :
    evaluateSupply i volts s = checkHeadsOf i (raise (.sectionFlag i .supplyLost true)
      (s.editProt i fun p => { p with lowRun := some (x.prot.lowRun.getD s.partTime), supplyLost := true })) := by
  unfold evaluateSupply State.editProt
  rw [hx, editSect_eq hx]
  dsimp only
  rw [if_pos hl, if_pos (by simpa using hlow), if_pos ⟨hle, hs⟩, editSect_putSect]
  exact checkIfPowerChanged_supply hx hl hs (y := { x with prot := { x.prot with
    lowRun := some (x.prot.lowRun.getD s.partTime), supplyLost := true } }) (by simp) hl rfl

theorem evaluateSupply_high (hne : volts ≠ []) (hhigh : ∀ v ∈ volts, x.params.vDead ≤ v) (hs : x.prot.supplyLost = false) :
    evaluateSupply i volts s = s.editProt i fun p => { p with lowRun := none } := by
  have hlow : ¬ ∀ v ∈ volts, v < x.params.vDead := fun h => by
    obtain ⟨v, hv⟩ := List.exists_mem_of_ne_nil _ hne
    exact absurd (h v hv) (Nat.not_lt.mpr (hhigh v hv))
  unfold evaluateSupply State.editProt
  rw [hx, editSect_eq hx]
  dsimp only
  rw [if_pos hl, if_neg (by simpa using hlow), if_pos (by simpa using hhigh), if_neg (by simp [hs]), ← hs]

theorem evaluateSupply_back (hne : volts ≠ []) (hhigh : ∀ v ∈ volts, x.params.vDead ≤ v) (hs : x.prot.supplyLost = true) :
    evaluateSupply i volts s = checkHeadsOf i (raise (.sectionFlag i .supplyLost false)
      (s.editProt i fun p => { p with lowRun := none, supplyLost := false })) := by
  have hlow : ¬ ∀ v ∈ volts, v < x.params.vDead := fun h => by
    obtain ⟨v, hv⟩ := List.exists_mem_of_ne_nil _ hne
    exact absurd (h v hv) (Nat.not_lt.mpr (hhigh v hv))
  unfold evaluateSupply State.editProt
  rw [hx, editSect_eq hx]
  dsimp only
  rw [if_pos hl, if_neg (by simpa using hlow), if_pos (by simpa using hhigh), if_pos hs]
  exact checkIfPowerChanged_supply hx hl hs (y := { x with prot := { x.prot with lowRun := none, supplyLost := false } })
    (by simp) hl rfl

end

/-- The evaluation changes no more of the section's record than its low run and SUPPLY_LOST. -/
theorem evaluateSupply_sect (hx : s.sect i = some x) : ∃ lo sl, (evaluateSupply i volts s).sect i
    = some { x with prot := { x.prot with lowRun := lo, supplyLost := sl } } := by
  have hchecked : ∀ (b : Bool) (u : State), (checkIfPowerChanged i b u).sect i = u.sect i := fun b u => by
    unfold checkIfPowerChanged
    split
    · rfl
    · exact sect_congr (sections_of_besideFrogs (besideFrogs_checkHeadsOf u i)) i
  unfold evaluateSupply State.editProt
  rw [hx]
  dsimp only
  split
  · split
    · split
      · refine ⟨some (x.prot.lowRun.getD s.partTime), true, ?_⟩
        rw [hchecked, editSect_putSect]
        simp
      · exact ⟨_, _, State.sect_putSect_same ..⟩
    · split
      · split
        · exact ⟨none, false, (hchecked _ _).trans (by simp)⟩
        · exact ⟨_, _, State.sect_putSect_same ..⟩
      · exact ⟨_, _, hx⟩
  · exact ⟨_, _, hx⟩

/-! ## The work of an accepted frame (R9) -/

/-- The state once the samples of `l` are taken and the sequence, I_last and the silence timer are set. -/
def noted (i : SectionIx) (seq : Byte) (last : Int) (deadline : Time) (l : List Sample) (s : State) : State :=
  (l.foldl (takeSample i) s).editProt i fun p =>
    { p with expectedSeq := seq + 1, iLast := last, silence := .running deadline 0 0 }

theorem noted_sect (l : List Sample) (last : Int) (deadline : Time) (hx : s.sect i = some x) (hs : x.prot.synced = true)
    (hb : x.prot.blind = false) : ∃ z, (noted i seq last deadline l s).sect i = some z ∧ z.params = x.params ∧
      z.prot.synced = true ∧ z.prot.blind = false ∧
      z.prot.iPrev = (l.map fun m => m.clamped.current).getLastD x.prot.iPrev ∧ z.prot.iLast = last ∧
      z.prot.expectedSeq = seq + 1 := by
  obtain ⟨y, hy, hf⟩ := samples_follow l hx
  exact ⟨{ y with prot := { y.prot with expectedSeq := seq + 1, iLast := last, silence := .running deadline 0 0 } },
    by simp [noted, State.editProt, editSect_eq hy], hf.params, hf.synced.trans hs, hf.blind.trans hb, hf.previous, rfl, rfl⟩

/-- The gap action of a frame of that class on the section, BLIND cleared (R7, R8, R22). -/
def joined (i : SectionIx) (c : GapClass) (l : List Sample) (s : State) : State :=
  gapAction i c ((l.headD { current := 0, voltage := 0 }).clamped).current (clearBlind i s)

theorem joined_eq (l : List Sample) (h : x.prot.synced = false ∨ (seq - x.prot.expectedSeq).toNat < 128) :
    joined i (gapClass x.prot seq) l s
      = if x.prot.synced = false ∨ 4 ≤ (seq - x.prot.expectedSeq).toNat then
          resync i ((l.headD { current := 0, voltage := 0 }).clamped).current (clearBlind i s)
        else if (seq - x.prot.expectedSeq).toNat = 0 then clearBlind i s
        else fillGap i (seq - x.prot.expectedSeq).toNat (clearBlind i s) := by
  unfold joined
  by_cases hresync : x.prot.synced = false ∨ 4 ≤ (seq - x.prot.expectedSeq).toNat
  · rw [if_pos hresync, gapClass_resync hresync h]
    rfl
  · rw [if_neg hresync]
    rw [not_or, Bool.not_eq_false, Nat.not_le] at hresync
    by_cases h0 : (seq - x.prot.expectedSeq).toNat = 0
    · rw [if_pos h0, gapClass_normal hresync.1 h0]
      rfl
    · rw [if_neg h0, gapClass_missing hresync.1 h0 hresync.2]
      rfl

theorem joined_sect {c : GapClass} (l : List Sample) (hx : s.sect i = some x) (hc : x.prot.synced = true ∨ c = .resync) :
    ∃ y, (joined i c l s).sect i = some y ∧ y.params = x.params ∧ y.prot.synced = true ∧ y.prot.blind = false := by
  obtain ⟨y, hy, hparams, hsynced, hblind⟩ := clearBlind_sect hx
  obtain ⟨z, hz, hparams', hrest⟩ := gapAction_sect ((l.headD { current := 0, voltage := 0 }).clamped).current hy hblind
    (hc.imp_left hsynced.trans)
  exact ⟨z, hz, hparams'.trans hparams, hrest⟩

/-- An accepted frame: the gap, the samples and the sequence, the supply-loss evaluation, and the cool-down check. -/
theorem acceptFrame_eq {c : GapClass} (l : List Sample) (hx : s.sect i = some x) (hc : x.prot.synced = true ∨ c = .resync) :
    acceptFrame i c seq l s = coolDownCheck i (evaluateSupply i (l.map fun m => m.clamped.voltage)
      (noted i seq ((l.getLastD { current := 0, voltage := 0 }).clamped).current
        (s.partTime + BitVec.ofNat 32 x.params.silenceTime) l (joined i c l s))) := by
  obtain ⟨y, hy, hparams, -⟩ := joined_sect l hx hc
  obtain ⟨z, hz, hf⟩ := samples_follow l hy
  have hz' : (l.foldl (takeSample i) (gapAction i c ((l.headD { current := 0, voltage := 0 }).clamped).current
    (clearBlind i s))).sect i = some z := hz
  unfold acceptFrame noted joined State.editProt
  dsimp only
  rw [editSect_eq hz', editSect_eq hz', hf.params, hparams]
  rfl

theorem calm_noted {a : SectionIx → Prop} (i : SectionIx) (last : Int) (deadline : Time) (l : List Sample) (s : State) :
    Calm a s (noted i seq last deadline l s) :=
  (calm_foldl (calm_takeSample i) l s).trans (calm_editProt i _ _)

theorem calm_joined {a : SectionIx → Prop} (i : SectionIx) (c : GapClass) (l : List Sample) (s : State) :
    Calm a s (joined i c l s) := (calm_clearBlind i s).trans (calm_gapAction i c _ _)

theorem besideSections_noted (l : List Sample) (last : Int) (deadline : Time) :
    (noted i seq last deadline l s).besideSections = s.besideSections := by
  unfold noted State.editProt
  rw [besideSections_editSect, besideSections_foldl _ _ fun u m => besideSections_takeSample u i m]

theorem besideSections_joined (c : GapClass) (l : List Sample) : (joined i c l s).besideSections = s.besideSections := by
  simp [joined]

/-! ## The cool-down check (R40) -/

theorem coolDownCheck_rest (hx : s.sect i = some x) (h : x.state ≠ .energizing .cooling ∨ x.params.hTrip / 2 ≤ x.prot.h) :
    coolDownCheck i s = s := by
  unfold coolDownCheck
  rw [hx]
  refine if_neg ?_
  rintro ⟨hs, hc⟩
  rw [Sect.cool, decide_eq_true_eq] at hc
  exact h.elim (fun hn => hn hs) fun hle => absurd hc (Nat.not_lt.mpr hle)

theorem coolDownCheck_passes (hx : s.sect i = some x) (hs : x.state = .energizing .cooling)
    (h : x.prot.h < x.params.hTrip / 2) : coolDownCheck i s = passToTestWait i s := by
  unfold coolDownCheck
  rw [hx]
  exact if_pos ⟨hs, decide_eq_true h⟩

/-- The check leaves the section's protection record. -/
theorem coolDownCheck_prot (hu : ∀ u, UnitOk s u) (hx : s.sect i = some x) :
    ∃ y, (coolDownCheck i s).sect i = some y ∧ y.prot = x.prot := by
  by_cases h : x.state = .energizing .cooling ∧ x.prot.h < x.params.hTrip / 2
  · rw [coolDownCheck_passes hx h.1 h.2]
    obtain ⟨⟨hfree, hheld, -⟩, -⟩ := passToTestWait_spec hx (by rw [h.1]; nofun) (hu x.params.testUnit).free
    by_cases hh : (s.unit x.params.testUnit).holder = none
    · exact ⟨_, (hfree hh).2.1, rfl⟩
    · exact ⟨_, (hheld hh).2.1, rfl⟩
  · refine ⟨x, ?_, rfl⟩
    rw [coolDownCheck_rest hx (by by_cases hs : x.state = .energizing .cooling <;> simp_all)]
    exact hx

/-! ## The frame -/

/-- A SAMPLE frame from a configured feeder is processed and left to the filter (R4, R146). -/
theorem exec_sampleFrame {dest src : LineAddr} {payload : List Byte} (hs : s.supervising) (hsrc : src ≠ 0x0000)
    (hi : s.sectAt src = some i) (hp : payload.length = 32) : exec (.sampleFrame dest src seq payload) s
      = .next (fileFrame .field (makeFrame dest src 0x11 seq payload) (takeSamples i seq payload s)) := by
  have hproc : processField (makeFrame dest src 0x11 seq payload) s = takeSamples i seq payload s := by
    simp [processField, makeFrame, kindSample, hi, hp]
  exact congrArg Host.Outcome.next
    ((arriveFrame_field hs (makeFrame dest src 0x11 seq payload)
      (show (0x11 : Byte) ≠ kindMgmt by decide) hsrc (show payload.length ≤ 120 by omega)).trans (by rw [hproc]))

/-! ## The statement settled -/

/-- Settles O23: the stale frame, and the accepted one by the parts of its work, each with what it leaves of the record. -/
theorem sampleFrameBySequence : Obligations.SampleFrameBySequence := by
  intro s i x dest src seq payload hs hu hsrc hi hx hp run filed gap samples clampedAt volts edit cleared joinedTo notedTo
  have hr := hs.1
  have hrun : run = .next (filed (takeSamples i seq payload s)) := exec_sampleFrame hs hsrc hi hp
  have hparse : parseSamples payload = samples := parseSamples_eq 8 payload hp
  refine ⟨fun hsynced hgap => ?_, fun hgap => ?_⟩
  · rw [hrun, takeSamples_stale hx (gapClass_stale hsynced hgap)]
  obtain ⟨c, hc⟩ : ∃ c, c = gapClass x.prot seq := ⟨_, rfl⟩
  have hcleared : clearBlind i s = cleared := clearBlind_eq hx
  have hjoined : joined i c samples s = joinedTo := by
    rw [hc, joined_eq samples hgap, hcleared]
    unfold fillGap
    rw [fillSteps_eq]
    rfl
  obtain ⟨hclass, hstale⟩ := hc ▸ gapClass_accepted hgap
  have hnoted : noted i seq (clampedAt 7) (s.partTime + BitVec.ofNat 32 x.params.silenceTime) samples (joined i c samples s)
      = notedTo := by
    rw [hjoined]
    rfl
  obtain ⟨y, hy, hparams, hsynced, hblind⟩ := joined_sect samples hx hclass
  obtain ⟨z, hz, hzparams, hzsynced, hzblind, hzprev, hzlast, hzseq⟩ := noted_sect (seq := seq) samples (clampedAt 7)
    (s.partTime + BitVec.ofNat 32 x.params.silenceTime) hy hsynced hblind
  rw [hnoted] at hz
  replace hzparams := hzparams.trans hparams
  have hcalm : ∀ u, UnitOk notedTo u := hnoted ▸
    ((((calm_joined i c samples s).trans (calm_noted (a := fun _ => False) i _ _ samples _)) (hu hr)).1)
  have hbeside : notedTo.besideSections = s.besideSections := by
    rw [← hnoted, besideSections_noted, besideSections_joined]
  have htime : notedTo.partTime = s.partTime := partTime_of_besideSections hbeside
  obtain ⟨lo, sl, hsupplied⟩ := evaluateSupply_sect (volts := volts) hz
  have he : ∀ u, UnitOk (evaluateSupply i volts notedTo) u := (calm_evaluateSupply (a := fun _ => False) i volts notedTo hcalm).1
  obtain ⟨w, hw, hwprot⟩ := coolDownCheck_prot he hsupplied
  have hne : volts ≠ [] := nofun
  refine ⟨z, evaluateSupply i volts notedTo, coolDownCheck i (evaluateSupply i volts notedTo), hz, ?_, hzparams, hzsynced,
    hzblind, hzprev.trans hzlast.symm, ?_, fun hc => coolDownCheck_rest hsupplied (hzparams ▸ hc), fun hcool hheat => ?_, ?_,
    ?_, ?_⟩
  · rw [hrun, takeSamples_accepted hx (hc ▸ hstale), hparse, ← hc, acceptFrame_eq samples hx hclass]
    exact congrArg (fun u => Host.Outcome.next (filed (coolDownCheck i (evaluateSupply i volts u)))) hnoted
  · intro low high start
    have hlow : low → ∀ v ∈ volts, v < z.params.vDead := fun h => hzparams ▸ h
    have hhigh : high → ∀ v ∈ volts, z.params.vDead ≤ v := fun h => hzparams ▸ h
    have hstart : z.prot.lowRun.getD notedTo.partTime = start := by rw [htime]
    refine ⟨fun h => ?_, fun hl hv h => ?_, fun hl hv h hsup => ?_, fun hl hv => evaluateSupply_high hz hl hne (hhigh hv),
      fun hl hv => evaluateSupply_back hz hl hne (hhigh hv)⟩
    · by_cases hl : z.state = .live
      · obtain ⟨hnl, hnh⟩ := h.resolve_left fun hn => hn hl
        exact evaluateSupply_mixed hz hl (hzparams.symm ▸ hnl) (hzparams.symm ▸ hnh)
      · exact evaluateSupply_off hz hl
    · rw [← hstart]
      exact evaluateSupply_low hz hl (hlow hv) (by rwa [hstart, htime, hzparams])
    · rw [← hstart]
      exact evaluateSupply_lost hz hl (hlow hv) (by rwa [hstart, htime, hzparams]) hsup
  · have hoff : z.state ≠ .live := by rw [hcool]; nofun
    have hsame : evaluateSupply i volts notedTo = notedTo := evaluateSupply_off hz hoff
    rw [hsame, coolDownCheck_passes hz hcool (hzparams.symm ▸ hheat)]
    obtain ⟨hjoins, hothers⟩ := passToTestWait_spec hz hoff (hcalm _).free
    obtain ⟨htold, hfrogs⟩ := passToTestWait_told hz (hcalm _).free
    rw [← hzparams]
    exact ⟨hjoins, hothers, hfrogs, by simp, htold.notices, htold.lost⟩
  · simp [hbeside]
  · rw [hw, Option.map_some, hwprot, ← hzseq]
  · rw [hw, Option.map_some, hwprot, ← hzlast]

end Sys2Proof.Machine
end
